-- ==== Sys2Proof/Word.lean ====
section
/-! DEFINITION. The word types of the Q4016 and the plainest helpers over them: bytes, the wrapping numbers (cycle
numbers, capture indices, the uptime second), the index types of channels, transformers and slots, and a fixed
table built from a function of its index. -/

namespace Sys2Proof

/-- One byte of a frame, a body, a record or an image (R183). -/
abbrev Byte := BitVec 8

/-- A cycle number, modular 0..65535 (R8). -/
abbrev Cycle := BitVec 16

/-- A 32-bit wrapping number: a capture index (R128) or the uptime second (R161). -/
abbrev Word32 := BitVec 32

/-- Channels are numbered 0..39. -/
abbrev Channel := Fin 40

/-- Transformers are numbered 0..15. -/
abbrev Xf := Fin 16

/-- The four member slots of a transformer entry (R29), counted from 0 here and from 1 in the manual. -/
abbrev Slot := Fin 4

/-- The fixed table whose entry at `i` is `f i`. -/
def tabulate {n : Nat} {α : Type} (f : Fin n → α) : Vector α n :=
  ⟨⟨(List.finRange n).map f⟩, by simp⟩

end Sys2Proof
end

