-- ==== Sys2Proof/Config.lean ====
section
/-! DEFINITION. What the manual fixes as a number or leaves open: the part's capacities, the time unit of the model, and
the one free value. -/

namespace Sys2Proof.Config

/-- Ticks of the model's clock in one second: a tick is one third of a millisecond, the largest unit of which the
nominal periods of 50 Hz and 60 Hz are both whole multiples (DESIGN CHOICE, log entry 2). -/
def ticksPerSecond : Nat := 3000

/-- Ticks in one millisecond, for the timer fields of a READ STATE reply (R186). -/
def ticksPerMs : Nat := 3

/-- The nominal cycle period in ticks: 20 ms at 50 Hz, 1/60 s at 60 Hz (R170). -/
def ticksPerPeriod (freq : Nat) : Nat := ticksPerSecond / freq

/-- The stale timer's length in nominal periods (R15). -/
def stalePeriods : Nat := 3

/-- The A→B queue holds up to 8 frames (R156). -/
def aToBCapacity : Nat := 8

/-- The B→A queue holds up to 4 frames (R156). -/
def bToACapacity : Nat := 4

/-- The largest body length of a frame (R152, R183). -/
def maxBody : Nat := 1024

/-- The longest transmission that is stored (R152). -/
def maxTransmission : Nat := 1033

/-- The forward run at which an own frame goes before a forwarded one (R164). -/
def maxForwardRun : Nat := 8

/-- Slots of the capture ring (R127). -/
def ringSlots : Nat := 512

/-- The fill at and above which NEARLY FULL holds (R130). -/
def nearlyFullFill : Nat := 410

/-- FREE VALUE (log entry 9): whether the part takes the n-th RESET spell shorter than 10 µs as a reset. R187 allows
both outcomes of each such spell and fixes neither; nothing in the model evaluates this constant. -/
opaque shortSpellTaken : Nat → Bool

end Sys2Proof.Config
end

