-- ==== Sys2Proof/Syntax.lean ====
section
/-! DEFINITION. The commands of the Q4016, one constructor per row of spec/opcode_table.json. The first group are the
events the environment or the part's own oscillator brings about; the second group are the requests, each the taking,
at port B, of a good REQUEST frame addressed to the part (R158), with the requester's address, the tag and the bytes
of the parameters; the last is the count of an uptime second. -/

namespace Sys2Proof

/-- The two line ports. -/
inductive Port where
  /-- toward the digitisers -/
  | a
  /-- toward the station controller -/
  | b
deriving DecidableEq, Repr

/-- How long the RESET line is low (R187). -/
inductive ResetSpell where
  /-- 10 µs or more: always taken as a reset -/
  | full
  /-- shorter than 10 µs: taken as a reset or missed -/
  | short
deriving DecidableEq, Repr

/-- The commands. `lock` is the level of the LOCK pin at the command (true: asserted); only the LOCKED check of a
SET GUARD reads it (R176, R187). -/
inductive Instr where
  /-- R152: the transmission `bytes` ends at `port`. -/
  | frameArrival (port : Port) (bytes : List Byte) (lock : Bool)
  /-- R157: port A finishes sending its frame. -/
  | portATransmitCompletion
  /-- R164: port B finishes sending its frame. -/
  | portBTransmitCompletion
  /-- R15: the stale timer of a channel expires. -/
  | staleTimerExpiry (c : Channel)
  /-- R17: the lost timer of a channel expires. -/
  | lostTimerExpiry (c : Channel)
  /-- R103: the hold timer expires. -/
  | holdTimerExpiry
  /-- R161: the status timer expires. -/
  | statusTimerExpiry
  /-- R177: the store's write-completion event. -/
  | storeWriteCompletion
  /-- R180: the restore-completion event. -/
  | restoreCompletion
  /-- R187: RESET is asserted. -/
  | resetAsserted (spell : ResetSpell)
  /-- R165: power is lost. -/
  | powerLoss
  /-- R165: power-on, or release of RESET; `straps` is ADDR5..ADDR0 as sampled. -/
  | coldStart (straps : BitVec 6)
  /-- R169, code 0x01 -/
  | readSetup (source tag : Byte) (params : List Byte)
  /-- R171, code 0x02 -/
  | writeSetup (source tag : Byte) (params : List Byte)
  /-- R169, code 0x03 -/
  | readChannel (source tag : Byte) (params : List Byte)
  /-- R173, code 0x04 -/
  | writeChannel (source tag : Byte) (params : List Byte)
  /-- R169, code 0x05 -/
  | readTransformer (source tag : Byte) (params : List Byte)
  /-- R173, code 0x06 -/
  | writeTransformer (source tag : Byte) (params : List Byte)
  /-- R174, code 0x07 -/
  | setService (source tag : Byte) (params : List Byte)
  /-- R67, code 0x08 -/
  | acknowledge (source tag : Byte) (params : List Byte)
  /-- R68, code 0x08 with the index 0xFF -/
  | acknowledgeAll (source tag : Byte)
  /-- R169, code 0x09 -/
  | readState (source tag : Byte) (params : List Byte)
  /-- R120, code 0x0A -/
  | readEvents (source tag : Byte) (params : List Byte)
  /-- R123, code 0x0B -/
  | setFloor (source tag : Byte) (params : List Byte)
  /-- R133, code 0x0C -/
  | readCapture (source tag : Byte) (params : List Byte)
  /-- R145, code 0x0D -/
  | readBank (source tag : Byte) (params : List Byte)
  /-- R147, code 0x0E -/
  | clearBank (source tag : Byte) (params : List Byte)
  /-- R176, code 0x0F -/
  | setGuard (source tag : Byte) (params : List Byte) (lock : Bool)
  /-- R163, code 0x10 -/
  | sendStatus (source tag : Byte) (params : List Byte)
  /-- R181, code 0x11 -/
  | restart (source tag : Byte) (params : List Byte)
  /-- R161: a whole second of the part's own oscillator has passed. -/
  | uptimeSecondCount
deriving DecidableEq, Repr

end Sys2Proof
end

