-- ==== Sys2Proof/WellFormed.lean ====
section
/-! DEFINITION. Which commands the line can bring: a transmission holds at least one byte, a request's parameters fit a
frame's body beside the code and the tag, and the body of an acknowledge-all belongs to its own row. The meanings are
defined for every term all the same. -/

namespace Sys2Proof

/-- The parameters of a request fit a frame body of at most 1024 bytes with the code and the tag before them (R152). -/
def paramsFit (params : List Byte) : Bool := params.length + 2 ≤ Config.maxBody

/-- The checks on each command. -/
def Instr.wellFormed : Instr → Bool
  | .frameArrival _ bytes _ => !bytes.isEmpty
  | .portATransmitCompletion => true
  | .portBTransmitCompletion => true
  | .staleTimerExpiry _ => true
  | .lostTimerExpiry _ => true
  | .holdTimerExpiry => true
  | .statusTimerExpiry => true
  | .storeWriteCompletion => true
  | .restoreCompletion => true
  | .resetAsserted _ => true
  | .powerLoss => true
  | .coldStart _ => true
  | .readSetup _ _ p => paramsFit p
  | .writeSetup _ _ p => paramsFit p
  | .readChannel _ _ p => paramsFit p
  | .writeChannel _ _ p => paramsFit p
  | .readTransformer _ _ p => paramsFit p
  | .writeTransformer _ _ p => paramsFit p
  | .setService _ _ p => paramsFit p
  | .acknowledge _ _ p => paramsFit p && p != [0xFF]
  | .acknowledgeAll _ _ => true
  | .readState _ _ p => paramsFit p
  | .readEvents _ _ p => paramsFit p
  | .setFloor _ _ p => paramsFit p
  | .readCapture _ _ p => paramsFit p
  | .readBank _ _ p => paramsFit p
  | .clearBank _ _ p => paramsFit p
  | .setGuard _ _ p _ => paramsFit p
  | .sendStatus _ _ p => paramsFit p
  | .restart _ _ p => paramsFit p
  | .uptimeSecondCount => true

end Sys2Proof
end

