-- ==== Sys2Proof/Machine/Records.lean ====
section
/-! DEFINITION. The plain data types of the part: the names of states, levels, results and errors, the table entries
(R1, R29, R170), and the live records of each block. Each inductive's `rank` or `code` function gives the number the
manual gives the name (R113, R184, section 8.5). -/

namespace Sys2Proof.Machine

/-! ### Names -/

/-- Channel kinds (R1). -/
inductive ChannelKind where
  | neutral | fieldX | fieldY
deriving DecidableEq, Repr

/-- Polarity (R1). -/
inductive Polarity where
  | plus | minus
deriving DecidableEq, Repr

/-- Channel states (R4), in the rank order of R113. -/
inductive ChannelState where
  | off | valid | settling | suspect | stale | lost
deriving DecidableEq, Repr

/-- The levels QUIET 0 to ALARM 3, for the condition, thermal and reported levels. -/
inductive Level where
  | quiet | watch | alert | alarm
deriving DecidableEq, Repr

/-- Quality of a transformer's combined current (R33). -/
inductive Quality where
  | good | degraded | noData
deriving DecidableEq, Repr

/-- Station states (R97). -/
inductive StationState where
  | calm | watch | storm
deriving DecidableEq, Repr

/-- The threshold set used at a transformer's last evaluation (R57). -/
inductive SetUsed where
  | none | normal | storm
deriving DecidableEq, Repr

/-- Guard spans (R175). -/
inductive GuardSpan where
  | none | topQuarter | topHalf | all
deriving DecidableEq, Repr

/-- The seven error banks (R139), in bank order. -/
inductive BankId where
  | linkA | linkB | input | assembly | compute | table | output
deriving DecidableEq, Repr

/-- The classes of an error (chapter 8). -/
inductive ErrorClass where
  | corrected | uncorrected
deriving DecidableEq, Repr

/-- The class a bank holds, for the event queue (R140). -/
inductive HeldClass where
  | empty | corrected | uncorrected
deriving DecidableEq, Repr

/-- The error codes of section 8.5. -/
inductive ErrorCode where
  | crcFail | badLength | oversize | forwardOverflow | misdirectedRequest | requestOverrun
  | malformedBlock | oldBlock | sequenceBreak | invalidSamples | clipped | channelLost
  | lateMember | lateBlock | noData
  | channelClamp | transformerClamp | thermalClamp | rateClamp
  | entryCheckFail | setupCheckFail
  | statusSuperseded
deriving DecidableEq, Repr

/-- Results of a request (R167). -/
inductive Result where
  | done | notReady | unknownRequest | badLength | badIndex | guarded | locked | inService | badValue
deriving DecidableEq, Repr

/-- The read case of a READ CAPTURE (R133). -/
inductive ReadCase where
  | current | overrun | ahead
deriving DecidableEq, Repr

/-- What the part is doing as a whole: power absent, RESET held, the restore of a start pending, or running. The
bypass is closed in the first two (R165). -/
inductive Phase where
  | powerAbsent | heldInReset | restoring | running
deriving DecidableEq, Repr

/-! ### The numbers of the names -/

/-- Rank order of R113, and the code of R184. -/
def ChannelState.rank : ChannelState → Nat
  | .off => 0 | .valid => 1 | .settling => 2 | .suspect => 3 | .stale => 4 | .lost => 5

/-- QUIET 0, WATCH 1, ALERT 2, ALARM 3. -/
def Level.num : Level → Nat
  | .quiet => 0 | .watch => 1 | .alert => 2 | .alarm => 3

/-- The rank of a reported level among the LEVEL values of R113, where OFF is 0. -/
def Level.rank (l : Level) : Nat := l.num + 1

/-- The rank of OFF among the LEVEL values of R113. -/
def levelOffRank : Nat := 0

def Quality.code : Quality → Nat
  | .good => 0 | .degraded => 1 | .noData => 2

/-- Rank order of R113, and the code of R184. -/
def StationState.rank : StationState → Nat
  | .calm => 0 | .watch => 1 | .storm => 2

def SetUsed.code : SetUsed → Nat
  | .none => 0 | .normal => 1 | .storm => 2

def ChannelKind.code : ChannelKind → Nat
  | .neutral => 0 | .fieldX => 1 | .fieldY => 2

def Polarity.code : Polarity → Nat
  | .plus => 0 | .minus => 1

def GuardSpan.code : GuardSpan → Nat
  | .none => 0 | .topQuarter => 1 | .topHalf => 2 | .all => 3

def ReadCase.code : ReadCase → Nat
  | .current => 0 | .overrun => 1 | .ahead => 2

def Result.code : Result → Nat
  | .done => 0 | .notReady => 1 | .unknownRequest => 2 | .badLength => 3 | .badIndex => 4
  | .guarded => 5 | .locked => 6 | .inService => 7 | .badValue => 8

/-- Bank numbers (R139). -/
def BankId.index : BankId → Fin 7
  | .linkA => 0 | .linkB => 1 | .input => 2 | .assembly => 3 | .compute => 4 | .table => 5 | .output => 6

/-- Banks 0 to 6 in bank order (R145, R147). -/
def BankId.inOrder : List BankId := [.linkA, .linkB, .input, .assembly, .compute, .table, .output]

/-- Rank order of the FAULT values (R113). -/
def HeldClass.rank : HeldClass → Nat
  | .empty => 0 | .corrected => 1 | .uncorrected => 2

/-- The class of each code (section 8.5). -/
def ErrorCode.errorClass : ErrorCode → ErrorClass
  | .channelLost => .uncorrected
  | .noData => .uncorrected
  | .entryCheckFail => .uncorrected
  | .setupCheckFail => .uncorrected
  | .crcFail => .corrected | .badLength => .corrected | .oversize => .corrected
  | .forwardOverflow => .corrected | .misdirectedRequest => .corrected | .requestOverrun => .corrected
  | .malformedBlock => .corrected | .oldBlock => .corrected | .sequenceBreak => .corrected
  | .invalidSamples => .corrected | .clipped => .corrected
  | .lateMember => .corrected | .lateBlock => .corrected
  | .channelClamp => .corrected | .transformerClamp => .corrected | .thermalClamp => .corrected
  | .rateClamp => .corrected
  | .statusSuperseded => .corrected

/-- The code number within its bank, as READ BANK carries it (section 8.5). -/
def ErrorCode.number : ErrorCode → Nat
  | .crcFail => 1 | .badLength => 2 | .oversize => 3 | .forwardOverflow => 4 | .misdirectedRequest => 5
  | .requestOverrun => 6
  | .malformedBlock => 1 | .oldBlock => 2 | .sequenceBreak => 3 | .invalidSamples => 4 | .clipped => 5
  | .channelLost => 6
  | .lateMember => 1 | .lateBlock => 2 | .noData => 3
  | .channelClamp => 1 | .transformerClamp => 2 | .thermalClamp => 3 | .rateClamp => 4
  | .entryCheckFail => 1 | .setupCheckFail => 2
  | .statusSuperseded => 1

/-- The station is in WATCH or STORM, so that the storm set is in force (R58) and every second is captured (R90). -/
def StationState.raised : StationState → Bool
  | .calm => false | .watch => true | .storm => true

/-- VALID and SUSPECT: the states whose output is used (R24, R25) and whose slots stand in the wait set (R34). -/
def ChannelState.live : ChannelState → Bool
  | .valid => true | .suspect => true
  | .off => false | .settling => false | .stale => false | .lost => false

/-- VALID, SUSPECT and STALE: the states whose output contributes to a completion (R44). -/
def ChannelState.contributes : ChannelState → Bool
  | .valid => true | .suspect => true | .stale => true
  | .off => false | .settling => false | .lost => false

/-! ### Table entries -/

/-- A channel entry (R1), less its check word, which the store's image holds. -/
structure ChannelEntry where
  kind : ChannelKind
  sensorId : Nat
  input : Nat
  gain : Nat
  offset : Int
  polarity : Polarity
  shift : Nat
  lostLimit : Nat
  inService : Bool
deriving DecidableEq, Repr

/-- A member slot: a channel, or empty, and a weight in quarters (R29). -/
structure MemberSlot where
  channel : Option Channel
  weight : Int
deriving DecidableEq, Repr

/-- A threshold set: three pickups and a hysteresis (R53). -/
structure ThresholdSet where
  p1 : Nat
  p2 : Nat
  p3 : Nat
  h : Nat
deriving DecidableEq, Repr

/-- A transformer entry (R29), less its check word. -/
structure XfEntry where
  slots : Vector MemberSlot 4
  normal : ThresholdSet
  storm : ThresholdSet
  risePersistence : Nat
  fallPersistence : Nat
  latch : Bool
  coefficient : Nat
  shift : Nat
  alertLimit : Nat
  alarmLimit : Nat
  inService : Bool
deriving DecidableEq, Repr

/-- The setup record (R170), less its check word. -/
structure Setup where
  freq : Nat
  statusInterval : Nat
  captureLevel : Nat
  watchRate : Nat
  stormRate : Nat
  holdTime : Nat
  quorum : Nat
  guardSpan : GuardSpan
  lockFlag : Bool
deriving DecidableEq, Repr

/-- The factory default channel entry (R1). -/
def ChannelEntry.factory : ChannelEntry :=
  { kind := .neutral, sensorId := 0, input := 0, gain := 4096, offset := 0, polarity := .plus, shift := 4,
    lostLimit := 100, inService := false }

/-- The factory default transformer entry (R29, R53, R54, R79). -/
def XfEntry.factory : XfEntry :=
  { slots := Vector.replicate 4 { channel := none, weight := 0 }
    normal := { p1 := 150, p2 := 300, p3 := 600, h := 30 }
    storm := { p1 := 100, p2 := 200, p3 := 450, h := 30 }
    risePersistence := 5, fallPersistence := 250, latch := true
    coefficient := 0, shift := 9, alertLimit := 2000, alarmLimit := 4000, inService := false }

/-- The factory default setup record (R170). -/
def Setup.factory : Setup :=
  { freq := 50, statusInterval := 1, captureLevel := 2, watchRate := 20, stormRate := 50, holdTime := 900, quorum := 2,
    guardSpan := .none, lockFlag := false }

/-! ### Channel conditioning -/

/-- The per-second fields of a FIELD channel (R92). A NEUTRAL channel's stand cleared. -/
structure FieldSecond where
  sum : Int
  count : Nat
  latestMean : Option Int
  previousMean : Option Int
  latestRate : Option Int
deriving DecidableEq, Repr

/-- The values of the per-second fields when cleared (R92). -/
def FieldSecond.cleared : FieldSecond :=
  { sum := 0, count := 0, latestMean := none, previousMean := none, latestRate := none }

/-- The channel record (R4). A timer is stopped (`none`) or runs with the ticks left. -/
structure ChannelRec where
  state : ChannelState
  y : Int
  mean : Int
  lastCycle : Option Cycle
  output : Int
  clipped : Bool
  degraded : Nat
  good : Nat
  settle : Nat
  staleTimer : Option Nat
  lostTimer : Option Nat
  second : FieldSecond
deriving DecidableEq, Repr

/-- The OFF values of R4. -/
def ChannelRec.off : ChannelRec :=
  { state := .off, y := 0, mean := 0, lastCycle := none, output := 0, clipped := false, degraded := 0, good := 0,
    settle := 0, staleTimer := none, lostTimer := none, second := FieldSecond.cleared }

/-! ### Transformer evaluator -/

/-- A subset of the four slots. -/
abbrev SlotSet := Vector Bool 4

/-- The empty subset. -/
def SlotSet.empty : SlotSet := Vector.replicate 4 false

/-- The level part of the transformer record that the evaluation works on (R57). -/
structure LevelRec where
  condition : Level
  rise : Nat
  runFloor : Level
  fall : Nat
  runCeiling : Level
  setUsed : SetUsed
deriving DecidableEq, Repr

/-- The values of R57 when OFF and at placing in service. -/
def LevelRec.initial : LevelRec :=
  { condition := .quiet, rise := 0, runFloor := .quiet, fall := 0, runCeiling := .quiet, setUsed := .none }

/-- The transformer record (R33, R57). -/
structure XfRec where
  inService : Bool
  quality : Quality
  waitSet : SlotSet
  pendingCycle : Option Cycle
  marked : SlotSet
  lastCompleted : Option Cycle
  current : Int
  magnitude : Nat
  levels : LevelRec
  reported : Level
  unack : Bool
  secondSum : Nat
  secondCount : Nat
  theta : Nat
  thermal : Level
deriving DecidableEq, Repr

/-- The OFF values of R33 with the given thermal estimate and level, which a removal and a warm restart keep. -/
def XfRec.offWith (theta : Nat) (thermal : Level) : XfRec :=
  { inService := false, quality := .noData, waitSet := SlotSet.empty, pendingCycle := none, marked := SlotSet.empty,
    lastCompleted := none, current := 0, magnitude := 0, levels := LevelRec.initial, reported := .quiet, unack := false,
    secondSum := 0, secondCount := 0, theta := theta, thermal := thermal }

/-- The OFF values of R33 at cold start. -/
def XfRec.off : XfRec := XfRec.offWith 0 .quiet

/-! ### Storm monitor -/

/-- The station record (R97). An axis rate carries the channel that gave it. -/
structure StationRec where
  state : StationState
  xRate : Option (Int × Channel)
  yRate : Option (Int × Channel)
  latestNorm : Option Nat
  watchRun : Nat
  holdTimer : Option Nat
  alertCount : Nat
  quorumMet : Bool
deriving DecidableEq, Repr

/-- The values of R97 at each start, before the alert count is formed. -/
def StationRec.initial : StationRec :=
  { state := .calm, xRate := none, yRate := none, latestNorm := none, watchRun := 0, holdTimer := none, alertCount := 0,
    quorumMet := false }

/-! ### Event queue -/

/-- The 64 keys of R111. -/
inductive EventKey where
  | level (t : Xf)
  | channel (c : Channel)
  | station
  | fault (b : BankId)
deriving DecidableEq, Repr

/-- An event record (R112). The from, to and peak are places in the rank order of the key's kind (R113, R186). -/
structure EventRec where
  key : EventKey
  firstSecond : Word32
  lastSecond : Word32
  fromRank : Nat
  toRank : Nat
  peak : Nat
  changes : Nat
  priority : Nat
deriving DecidableEq, Repr

/-- The event queue: its records, oldest first, and the report floor (R111, R118). -/
structure EventQueue where
  records : List EventRec
  reportFloor : Nat
deriving DecidableEq, Repr

/-- The queue after each start (R125, R126). -/
def EventQueue.initial : EventQueue := { records := [], reportFloor := 0 }

/-! ### Capture recorder -/

/-- A capture record (R91, R127). -/
structure CaptureRec where
  second : Word32
  xf : Xf
  meanMagnitude : Nat
  current : Int
  theta : Nat
  reported : Level
  quality : Quality
  station : StationState
deriving DecidableEq, Repr

/-- The capture recorder (R127, R128): the ring's 512 slots, the run index, the held read index, filled and OVERRUN. -/
structure Recorder where
  ring : Vector (Option CaptureRec) Config.ringSlots
  run : Word32
  held : Word32
  filled : Bool
  overrun : Bool
deriving DecidableEq, Repr

/-- The recorder after each start (R137, R138). -/
def Recorder.initial : Recorder :=
  { ring := Vector.replicate Config.ringSlots none, run := 0, held := 0, filled := false, overrun := false }

/-! ### Error banks -/

/-- A bank record (R140). -/
structure BankRec where
  valid : Bool
  uncorrected : Bool
  overflow : Bool
  code : Option ErrorCode
  subject : Byte
  second : Word32
  count : Nat
deriving DecidableEq, Repr

/-- The empty values of R140. -/
def BankRec.empty : BankRec :=
  { valid := false, uncorrected := false, overflow := false, code := none, subject := 0, second := 0, count := 0 }

/-- The class a bank holds (R140). -/
def BankRec.heldClass (b : BankRec) : HeldClass :=
  if b.valid then (if b.uncorrected then .uncorrected else .corrected) else .empty

/-! ### Frame handler -/

/-- A request in hand: its source address and its body (R158). -/
structure Request where
  source : Byte
  body : List Byte
deriving DecidableEq, Repr

/-- The response slot (R158). READY holds the composed RESPONSE frame; while it is SENDING the transmitter holds it. -/
inductive ResponseSlot where
  | free
  | pending (rq : Request)
  | ready (frame : List Byte)
  | sending
deriving DecidableEq, Repr

/-- What port B is sending (R164). -/
inductive TxSource where
  | forward | response | status
deriving DecidableEq, Repr

/-- The frame handler (chapter 9): the two forward queues, the frames held by the two transmitters, the response slot,
the status slot and the forward run. -/
structure FrameHandler where
  aToB : List (List Byte)
  bToA : List (List Byte)
  txA : Option (List Byte)
  txB : Option (TxSource × List Byte)
  response : ResponseSlot
  status : Option (List Byte)
  forwardRun : Nat
deriving DecidableEq, Repr

/-- The frame handler at cold start, from the bypass opening (R165). -/
def FrameHandler.initial : FrameHandler :=
  { aToB := [], bToA := [], txA := none, txB := none, response := .free, status := none, forwardRun := 0 }

/-! ### Events inside a request for all (R68, R148) -/

/-- An event that the part can take between two transformers of an ACKNOWLEDGE for all (R68), or between two banks of a
CLEAR BANK for all (R148), while that request holds the response slot. Each has the meaning of the row of its name. No
other row can come there: a further request comes as a frame and meets the occupied slot (R158), no store write is in
progress while the slot is held for another request (R177), and an end of the working state ends the request too. -/
inductive PartEvent where
  /-- R152: the transmission `bytes` ends at `port`. -/
  | frameArrival (port : Port) (bytes : List Byte)
  /-- R157: port A finishes sending its frame. -/
  | portATransmitCompletion
  /-- R164: port B finishes sending its frame. -/
  | portBTransmitCompletion
  /-- R15: the stale timer of a channel expires. -/
  | staleTimerExpiry (c : Channel)
  /-- R17: the lost timer of a channel expires. -/
  | lostTimerExpiry (c : Channel)
  /-- R103: the hold timer expires. -/
  | holdTimerExpiry
  /-- R161: the status timer expires. -/
  | statusTimerExpiry
  /-- R161: a whole second of the part's own oscillator has passed. -/
  | uptimeSecondCount
deriving DecidableEq, Repr

/-- An event inside a request for all: it comes when the request has taken the transformer or the bank of number
`after`, and before it takes the next one. -/
structure Interposed where
  after : Nat
  event : PartEvent
deriving DecidableEq, Repr

/-! ### Table store and clock -/

/-- One image of the table store (R177): its bytes with the check word behind them, or an image torn by a reset or a
power loss during its write, which fails its check word at every restore (R178). -/
inductive Image where
  | whole (bytes : List Byte)
  | torn
deriving DecidableEq, Repr

/-- The nonvolatile table store: 57 images (R177). -/
structure Store where
  setup : Image
  xfs : Vector Image 16
  channels : Vector Image 40
deriving DecidableEq, Repr

/-- A store write in progress (R177): what its write-completion event takes into the live tables. -/
inductive StoreWrite where
  /-- WRITE SETUP (R171) -/
  | setup (new : Setup)
  /-- SET GUARD (R176) -/
  | guardSpan (new : Setup)
  /-- WRITE CHANNEL (R173) -/
  | channelEntry (c : Channel) (new : ChannelEntry)
  /-- WRITE TRANSFORMER (R173) -/
  | xfEntry (t : Xf) (new : XfEntry)
  /-- SET SERVICE for a channel (R174); `new` holds the new in-service field -/
  | channelService (c : Channel) (new : ChannelEntry)
  /-- SET SERVICE for a transformer (R174) -/
  | xfService (t : Xf) (new : XfEntry)
deriving DecidableEq, Repr

/-- The uptime counter (R161), the model's own count of ticks into the present uptime second, and whether the status
timer's expiry at the present second is still to come. -/
structure Clock where
  uptime : Word32
  subTick : Nat
  statusDue : Bool
deriving DecidableEq, Repr

/-- The clock at the restore-completion event (R161). -/
def Clock.initial : Clock := { uptime := 0, subTick := 0, statusDue := false }

end Sys2Proof.Machine
end

