-- ==== Sys2Proof/Machine/Arith.lean ====
section
/-! DEFINITION. The arithmetic of every stage, as pure functions: cycle distance, the cycle mean, the filter, scaling,
the combination, the level evaluation, the thermal estimate and level, and the rate norm. Division of integers by a
positive number rounds toward minus infinity, which is the manual's floor. -/

namespace Sys2Proof.Machine

/-- The cycle distance from `p` to `c`, in −32768..32767 (R8). -/
def cycleDistance (p c : Cycle) : Int := (c - p).toInt

/-- `x` clamped to `lo`..`hi`. -/
def clampTo (lo hi x : Int) : Int := if x < lo then lo else if hi < x then hi else x

/-- One more, saturating at 255 (R14, R116). -/
def sat255 (n : Nat) : Nat := if n < 255 then n + 1 else n

/-! ### Channel conditioning -/

/-- The judgement of a matched input's cycle number (R8). -/
inductive Judgement where
  /-- the first block of a reseed already made -/
  | firstBlock
  /-- accepted after this many missing cycles -/
  | accepted (missing : Nat)
  | old
  | sequenceBreak
deriving DecidableEq, Repr

/-- R8 for a channel that is not LOST. -/
def judgeCycle (last : Option Cycle) (c : Cycle) : Judgement :=
  match last with
  | none => .firstBlock
  | some p =>
    let d := cycleDistance p c
    if 1 ≤ d ∧ d ≤ 4 then .accepted (d - 1).toNat
    else if -64 ≤ d ∧ d ≤ 0 then .old
    else .sequenceBreak

/-- The settle remaining of a reseed (R20). -/
def settleStart (k : Nat) : Nat := 2 ^ k + 4

/-- A sample that the digitiser marks invalid (R18). -/
def sampleInvalid (x : Int) : Bool := x == -32768

/-- A sample at the limit of the digitiser's range (R18). -/
def sampleClipped (x : Int) : Bool := x == 32767 || x == -32767

/-- The mean of 32 valid samples (R18). -/
def cycleMean (samples : List Int) : Int := (samples.sum + 16) / 32

/-- Stage 2: the filter value after one update toward the mean `m` (R19). -/
def filterStep (k : Nat) (y m : Int) : Int :=
  if k = 0 then m * 256 else y + (m * 256 - y + ((2 ^ (k - 1) : Nat) : Int)) / ((2 ^ k : Nat) : Int)

/-- Stage 3 before its clamp (R21). -/
def scaleRaw (e : ChannelEntry) (y : Int) : Int :=
  let v := ((y - e.offset * 256) * (e.gain : Int) + 524288) / 1048576
  match e.polarity with
  | .plus => v
  | .minus => -v

/-- The limit of stage 3's clamp: 5000 dA, or 32767 for a field channel (R21). -/
def outputLimit : ChannelKind → Int
  | .neutral => 5000
  | .fieldX => 32767
  | .fieldY => 32767

/-! ### Combination (R44) -/

/-- I_xf before its clamp. -/
def combineRaw (sum : Int) : Int := (sum + 2) / 4

/-! ### Levels (R55 to R61) -/

/-- The higher of two levels. -/
def Level.higher (a b : Level) : Level := if a.num < b.num then b else a

/-- The lower of two levels. -/
def Level.lower (a b : Level) : Level := if b.num < a.num then b else a

/-- The pickup level of a magnitude (R55). -/
def pickupLevel (t : ThresholdSet) (a : Nat) : Level :=
  if t.p3 ≤ a then .alarm else if t.p2 ≤ a then .alert else if t.p1 ≤ a then .watch else .quiet

/-- The hold level of a magnitude (R56). -/
def holdLevel (t : ThresholdSet) (a : Nat) : Level :=
  if t.p3 ≤ a + t.h then .alarm else if t.p2 ≤ a + t.h then .alert else if t.p1 ≤ a + t.h then .watch else .quiet

/-- A rising evaluation (R59). -/
def risingStep (nr : Nat) (p : Level) (r : LevelRec) : LevelRec :=
  let lowest := if r.rise = 0 then p else Level.lower r.runFloor p
  if r.rise + 1 = nr then
    { r with condition := lowest, rise := 0, runFloor := .quiet, fall := 0, runCeiling := .quiet }
  else { r with rise := r.rise + 1, runFloor := lowest, fall := 0, runCeiling := .quiet }

/-- A falling evaluation (R60). -/
def fallingStep (nf : Nat) (h : Level) (r : LevelRec) : LevelRec :=
  let highest := if r.fall = 0 then h else Level.higher r.runCeiling h
  if r.fall + 1 = nf then
    { r with condition := highest, rise := 0, runFloor := .quiet, fall := 0, runCeiling := .quiet }
  else { r with rise := 0, runFloor := .quiet, fall := r.fall + 1, runCeiling := highest }

/-- A steady evaluation (R61). -/
def steadyStep (r : LevelRec) : LevelRec :=
  { r with rise := 0, runFloor := .quiet, fall := 0, runCeiling := .quiet }

/-- The threshold set in force (R58). -/
def setInForce (e : XfEntry) (raised : Bool) : ThresholdSet := if raised then e.storm else e.normal

/-- One evaluation of magnitude `a` (R58 to R61). -/
def evaluateLevels (e : XfEntry) (raised : Bool) (a : Nat) (r : LevelRec) : LevelRec :=
  let p := pickupLevel (setInForce e raised) a
  let h := holdLevel (setInForce e raised) a
  let r := { r with setUsed := if raised then .storm else .normal }
  if r.condition.num < p.num then risingStep e.risePersistence p r
  else if h.num < r.condition.num then fallingStep e.fallPersistence h r
  else steadyStep r

/-! ### Thermal estimate (R83 to R86) -/

/-- The steady-state target before its clamp (R83). -/
def thermalTargetRaw (aSec c : Nat) : Nat := aSec * c / 10

/-- Θ after one boundary toward the target (R84). -/
def thetaStep (s theta target : Nat) : Nat :=
  if s = 0 then target
  else ((theta : Int) + ((target : Int) - theta + ((2 ^ (s - 1) : Nat) : Int)) / ((2 ^ s : Nat) : Int)).toNat

/-- The drop of R86: the highest level whose hold test Θ passes, not above the present level. -/
def thermalDrop (e : XfEntry) (theta : Nat) : Level → Level
  | .alarm =>
    if e.alarmLimit ≤ theta + 200 then .alarm else if e.alertLimit ≤ theta + 200 then .alert else .quiet
  | .alert => if e.alertLimit ≤ theta + 200 then .alert else .quiet
  | .watch => .watch
  | .quiet => .quiet

/-- T from the new Θ: a rise is judged before a drop (R85, R86). -/
def thermalLevelOf (e : XfEntry) (theta : Nat) (present : Level) : Level :=
  if e.alarmLimit ≤ theta then .alarm
  else if e.alertLimit ≤ theta ∧ present.num < 2 then .alert
  else thermalDrop e theta present

/-! ### Rate norm (R99) -/

/-- The magnitude of an axis rate, 0 when absent. -/
def axisMagnitude : Option (Int × Channel) → Nat
  | some (r, _) => r.natAbs
  | none => 0

/-- R from the two axis magnitudes. -/
def rateNorm (x y : Nat) : Nat := max x y + 3 * min x y / 8

end Sys2Proof.Machine
end

