-- ==== Sys2Proof/Machine/Layout.lean ====
section
/-! DEFINITION. Byte order, the CRC, and the byte layouts of chapter 11 that carry one record each: frames, the three
table store images, and the event, capture and bank records. Every multibyte field is high byte first (R183). -/

namespace Sys2Proof.Machine

/-! ### Bytes -/

/-- One byte of the low 8 bits of `n`. -/
def be8 (n : Nat) : List Byte := [BitVec.ofNat 8 n]

/-- The low 16 bits of `n`, high byte first. -/
def be16 (n : Nat) : List Byte := [BitVec.ofNat 8 (n / 256), BitVec.ofNat 8 n]

/-- The low 32 bits of `n`, high byte first. -/
def be32 (n : Nat) : List Byte :=
  [BitVec.ofNat 8 (n / 16777216), BitVec.ofNat 8 (n / 65536), BitVec.ofNat 8 (n / 256), BitVec.ofNat 8 n]

/-- `x` in two's complement, 8 bits (R184). -/
def signed8 (x : Int) : List Byte := be8 (BitVec.ofInt 8 x).toNat

/-- `x` in two's complement, 16 bits (R184). -/
def signed16 (x : Int) : List Byte := be16 (BitVec.ofInt 16 x).toNat

/-- `x` in two's complement, 32 bits (R184). -/
def signed32 (x : Int) : List Byte := be32 (BitVec.ofInt 32 x).toNat

/-- A flag as 0 or 1 (R184). -/
def flagByte (b : Bool) : List Byte := be8 b.toNat

/-- Byte `i` of `bs` as a number; 0 beyond the end. -/
def u8 (bs : List Byte) (i : Nat) : Nat := (bs.getD i 0).toNat

/-- The two bytes at `i`, high byte first. -/
def u16 (bs : List Byte) (i : Nat) : Nat := u8 bs i * 256 + u8 bs (i + 1)

/-- The four bytes at `i`, high byte first. -/
def u32 (bs : List Byte) (i : Nat) : Nat := u16 bs i * 65536 + u16 bs (i + 2)

/-- Byte `i` read as two's complement. -/
def s8 (bs : List Byte) (i : Nat) : Int := (BitVec.ofNat 8 (u8 bs i)).toInt

/-- The two bytes at `i` read as two's complement. -/
def s16 (bs : List Byte) (i : Nat) : Int := (BitVec.ofNat 16 (u16 bs i)).toInt

/-- An optional signed 16-bit field: 0x8000 when absent (R184). -/
def optSigned16 : Option Int → List Byte
  | some x => signed16 x
  | none => be16 0x8000

/-- An optional cycle number: a presence byte, then the number, 0 when absent (R184). -/
def optCycle : Option Cycle → List Byte
  | some c => be8 1 ++ be16 c.toNat
  | none => be8 0 ++ be16 0

/-! ### The CRC (R183) -/

/-- One bit of the CRC register's shift: polynomial x^16 + x^12 + x^5 + 1, most significant bit first. -/
def crcShift (r : Nat) : Nat := ((r * 2) % 65536) ^^^ ((r / 32768) * 0x1021)

/-- One byte into the CRC register. -/
def crcByte (r : Nat) (b : Byte) : Nat :=
  let r := r ^^^ (b.toNat * 256)
  crcShift (crcShift (crcShift (crcShift (crcShift (crcShift (crcShift (crcShift r)))))))

/-- The 16-bit CRC of a run of bytes: the register preset to 0xFFFF, no inversion of the result (R183). -/
def crc16 (bs : List Byte) : Nat := bs.foldl crcByte 0xFFFF

/-! ### Frames (R183) -/

def kindCycleBlock : Byte := 0x21
def kindRequest : Byte := 0x31
def kindResponse : Byte := 0x32
def kindStatus : Byte := 0x41

/-- The broadcast address, the destination of status frames (R160). -/
def broadcast : Byte := 0xFF

/-- The bytes that a frame's CRC covers: the kind through the end of the body. -/
def frameInner (kind dest source : Byte) (body : List Byte) : List Byte :=
  [kind, dest, source] ++ be16 body.length ++ body

/-- A frame: the start mark, the covered bytes and the CRC. -/
def frameBytes (kind dest source : Byte) (body : List Byte) : List Byte :=
  [0xB5, 0x4A] ++ frameInner kind dest source body ++ be16 (crc16 (frameInner kind dest source body))

/-- What a good frame carries (R152). -/
structure GoodFrame where
  kind : Byte
  dest : Byte
  source : Byte
  body : List Byte
deriving DecidableEq, Repr

/-- The checks of R152 on a whole transmission, in their order: framing, size, length, CRC. -/
def checkFrame (bs : List Byte) : Except ErrorCode GoodFrame :=
  if bs.length < 9 ∨ bs.getD 0 0 ≠ 0xB5 ∨ bs.getD 1 0 ≠ 0x4A then .error .badLength
  else if Config.maxBody < u16 bs 5 ∨ Config.maxTransmission < bs.length then .error .oversize
  else if bs.length ≠ 9 + u16 bs 5 then .error .badLength
  else if crc16 ((bs.drop 2).take (5 + u16 bs 5)) ≠ u16 bs (7 + u16 bs 5) then .error .crcFail
  else .ok { kind := bs.getD 2 0, dest := bs.getD 3 0, source := bs.getD 4 0, body := (bs.drop 7).take (u16 bs 5) }

/-! ### Codes read back (R184) -/

def ChannelKind.ofCode : Nat → ChannelKind
  | 1 => .fieldX
  | 2 => .fieldY
  | _ => .neutral

def Polarity.ofCode : Nat → Polarity
  | 1 => .minus
  | _ => .plus

def GuardSpan.ofCode : Nat → GuardSpan
  | 1 => .topQuarter
  | 2 => .topHalf
  | 3 => .all
  | _ => .none

/-- The channel with the given index, if there is one. -/
def channelOfIndex (n : Nat) : Option Channel := if h : n < 40 then some ⟨n, h⟩ else none

/-- The transformer with the given index, if there is one. -/
def xfOfIndex (n : Nat) : Option Xf := if h : n < 16 then some ⟨n, h⟩ else none

/-! ### Table store images (R185) -/

/-- Fields 1 to 8 of a channel entry, 12 bytes. -/
def channelFieldBytes (e : ChannelEntry) : List Byte :=
  be8 e.kind.code ++ be16 e.sensorId ++ be8 e.input ++ be16 e.gain ++ signed16 e.offset ++ be8 e.polarity.code
    ++ be8 e.shift ++ be16 e.lostLimit

/-- A channel entry image less its check word, 13 bytes. -/
def channelImageBytes (e : ChannelEntry) : List Byte := channelFieldBytes e ++ flagByte e.inService

/-- A member slot as carried: the channel or 0xFF, then the weight. -/
def slotBytes (m : MemberSlot) : List Byte :=
  (match m.channel with
    | some c => be8 c.val
    | none => be8 0xFF) ++ signed8 m.weight

def thresholdBytes (t : ThresholdSet) : List Byte := be16 t.p1 ++ be16 t.p2 ++ be16 t.p3 ++ be16 t.h

/-- Fields 1 to 23 of a transformer entry, 35 bytes. -/
def xfFieldBytes (e : XfEntry) : List Byte :=
  slotBytes e.slots[0] ++ slotBytes e.slots[1] ++ slotBytes e.slots[2] ++ slotBytes e.slots[3]
    ++ thresholdBytes e.normal ++ thresholdBytes e.storm
    ++ be8 e.risePersistence ++ be16 e.fallPersistence ++ flagByte e.latch
    ++ be16 e.coefficient ++ be8 e.shift ++ be16 e.alertLimit ++ be16 e.alarmLimit

/-- A transformer entry image less its check word, 36 bytes. -/
def xfImageBytes (e : XfEntry) : List Byte := xfFieldBytes e ++ flagByte e.inService

/-- Fields 1 to 7 of the setup record, 10 bytes. -/
def setupFieldBytes (e : Setup) : List Byte :=
  be8 e.freq ++ be8 e.statusInterval ++ be8 e.captureLevel ++ be16 e.watchRate ++ be16 e.stormRate ++ be16 e.holdTime
    ++ be8 e.quorum

/-- The setup image less its check word, 12 bytes. -/
def setupImageBytes (e : Setup) : List Byte :=
  setupFieldBytes e ++ be8 e.guardSpan.code ++ flagByte e.lockFlag

/-- A channel entry read from its fields 1 to 8. -/
def channelOfFields (p : List Byte) (inService : Bool) : ChannelEntry :=
  { kind := ChannelKind.ofCode (u8 p 0), sensorId := u16 p 1, input := u8 p 3, gain := u16 p 4, offset := s16 p 6,
    polarity := Polarity.ofCode (u8 p 8), shift := u8 p 9, lostLimit := u16 p 10, inService := inService }

/-- The member slot carried at byte `i`. -/
def slotOfFields (p : List Byte) (i : Nat) : MemberSlot := { channel := channelOfIndex (u8 p i), weight := s8 p (i + 1) }

/-- The threshold set carried at byte `i`. -/
def thresholdOfFields (p : List Byte) (i : Nat) : ThresholdSet :=
  { p1 := u16 p i, p2 := u16 p (i + 2), p3 := u16 p (i + 4), h := u16 p (i + 6) }

/-- A transformer entry read from its fields 1 to 23. -/
def xfOfFields (p : List Byte) (inService : Bool) : XfEntry :=
  { slots := ⟨#[slotOfFields p 0, slotOfFields p 2, slotOfFields p 4, slotOfFields p 6], rfl⟩
    normal := thresholdOfFields p 8, storm := thresholdOfFields p 16
    risePersistence := u8 p 24, fallPersistence := u16 p 25, latch := u8 p 27 == 1
    coefficient := u16 p 28, shift := u8 p 30, alertLimit := u16 p 31, alarmLimit := u16 p 33, inService := inService }

/-- A setup record read from its fields 1 to 7. -/
def setupOfFields (p : List Byte) (span : GuardSpan) (lock : Bool) : Setup :=
  { freq := u8 p 0, statusInterval := u8 p 1, captureLevel := u8 p 2, watchRate := u16 p 3, stormRate := u16 p 5,
    holdTime := u16 p 7, quorum := u8 p 9, guardSpan := span, lockFlag := lock }

/-! ### The ranges of the fields -/

/-- The number of the first field whose test fails, in the order listed. -/
def firstFault : List (Nat × Bool) → Option Nat
  | [] => none
  | (n, ok) :: rest => if ok then firstFault rest else some n

/-- The first of fields 1 to 8 of a channel entry that is out of range (R1, R2). Field 2 takes every value. -/
def channelFieldFault (p : List Byte) : Option Nat :=
  firstFault
    [(1, u8 p 0 ≤ 2), (3, u8 p 3 ≤ 15), (4, u16 p 4 ≠ 0), (5, s16 p 6 ≠ -32768), (6, u8 p 8 ≤ 1), (7, u8 p 9 ≤ 7),
      (8, 10 ≤ u16 p 10 ∧ u16 p 10 ≤ 3000)]

/-- A slot's channel field: an index 0..39 or the empty marker (R30). -/
def slotChannelOk (p : List Byte) (i : Nat) : Bool := u8 p i < 40 || u8 p i == 0xFF

/-- A slot's weight field: −8..+8, nonzero for a used slot and 0 for an empty one (R30). -/
def slotWeightOk (p : List Byte) (i : Nat) : Bool :=
  -8 ≤ s8 p (i + 1) && s8 p (i + 1) ≤ 8 && ((u8 p i == 0xFF) == (s8 p (i + 1) == 0))

/-- The tests of one threshold set, whose first field is number `n` and stands at byte `i` (R53). -/
def thresholdTests (p : List Byte) (n i : Nat) : List (Nat × Bool) :=
  [(n, 1 ≤ u16 p i ∧ u16 p i ≤ 5000), (n + 1, u16 p i < u16 p (i + 2) ∧ u16 p (i + 2) ≤ 5000),
    (n + 2, u16 p (i + 2) < u16 p (i + 4) ∧ u16 p (i + 4) ≤ 5000), (n + 3, u16 p (i + 6) < u16 p i)]

/-- The tests of fields 17 to 23 of a transformer entry (R54, R79). -/
def persistenceAndThermalTests (p : List Byte) : List (Nat × Bool) :=
  [(17, 1 ≤ u8 p 24), (18, 1 ≤ u16 p 25 ∧ u16 p 25 ≤ 3000), (19, u8 p 27 ≤ 1),
    (20, u16 p 28 ≤ 4095), (21, u8 p 30 ≤ 12), (22, 200 ≤ u16 p 31), (23, u16 p 31 < u16 p 33)]

/-- The first of fields 1 to 23 of a transformer entry that is out of range (R30, R53, R54, R79). -/
def xfFieldFault (p : List Byte) : Option Nat :=
  firstFault
    ([(1, slotChannelOk p 0), (2, slotWeightOk p 0), (3, slotChannelOk p 2), (4, slotWeightOk p 2),
        (5, slotChannelOk p 4), (6, slotWeightOk p 4), (7, slotChannelOk p 6), (8, slotWeightOk p 6)]
      ++ thresholdTests p 9 8 ++ thresholdTests p 13 16
      ++ persistenceAndThermalTests p)

/-- The first of fields 1 to 7 of the setup record that is out of range (R96, R170, R171). -/
def setupFieldFault (p : List Byte) : Option Nat :=
  firstFault
    [(1, u8 p 0 = 50 ∨ u8 p 0 = 60), (2, 1 ≤ u8 p 1 ∧ u8 p 1 ≤ 60), (3, u8 p 2 ≤ 4), (4, 1 ≤ u16 p 3),
      (5, u16 p 3 < u16 p 5), (6, 60 ≤ u16 p 7 ∧ u16 p 7 ≤ 7200), (7, u8 p 9 ≤ 16)]

/-! ### Check words -/

/-- The image of some field bytes: the fields and the check word over them (R177). -/
def sealImage (fields : List Byte) : Image := .whole (fields ++ be16 (crc16 fields))

/-- The `len` field bytes of an image whose check word matches them; none for an image that fails (R179). -/
def openImage (len : Nat) : Image → Option (List Byte)
  | .torn => none
  | .whole bytes =>
    if bytes.length = len + 2 ∧ crc16 (bytes.take len) = u16 bytes len then some (bytes.take len) else none

/-- The setup record an image restores, if its check word matches. An image with a matching check word and a value out
of range is not possible through requests (R185) and is taken as failed (log entry 7). -/
def setupOfImage (i : Image) : Option Setup :=
  match openImage 12 i with
  | none => none
  | some p =>
    if setupFieldFault p = none ∧ u8 p 10 ≤ 3 ∧ u8 p 11 ≤ 1 then
      some (setupOfFields p (GuardSpan.ofCode (u8 p 10)) (u8 p 11 == 1))
    else none

/-- The channel entry an image restores, if its check word matches. -/
def channelOfImage (i : Image) : Option ChannelEntry :=
  match openImage 13 i with
  | none => none
  | some p => if channelFieldFault p = none ∧ u8 p 12 ≤ 1 then some (channelOfFields p (u8 p 12 == 1)) else none

/-- The transformer entry an image restores, if its check word matches. -/
def xfOfImage (i : Image) : Option XfEntry :=
  match openImage 36 i with
  | none => none
  | some p => if xfFieldFault p = none ∧ u8 p 35 ≤ 1 then some (xfOfFields p (u8 p 35 == 1)) else none

/-- A store of factory default images. -/
def Store.factory : Store :=
  { setup := sealImage (setupImageBytes Setup.factory)
    xfs := Vector.replicate 16 (sealImage (xfImageBytes XfEntry.factory))
    channels := Vector.replicate 40 (sealImage (channelImageBytes ChannelEntry.factory)) }

/-! ### Records of READ EVENTS, READ CAPTURE and READ BANK (R186) -/

/-- The kind code of a key. -/
def EventKey.kindCode : EventKey → Nat
  | .level _ => 1 | .channel _ => 2 | .station => 3 | .fault _ => 4

/-- The subject of a key (R111). -/
def EventKey.subject : EventKey → Nat
  | .level t => t.val | .channel c => c.val | .station => 0 | .fault b => b.index.val

/-- An event record, 15 bytes. -/
def eventBytes (r : EventRec) : List Byte :=
  be8 r.key.kindCode ++ be8 r.key.subject ++ be32 r.firstSecond.toNat ++ be32 r.lastSecond.toNat ++ be8 r.fromRank
    ++ be8 r.toRank ++ be8 r.peak ++ be8 r.changes ++ be8 r.priority

/-- A capture record, 14 bytes. -/
def captureBytes (r : CaptureRec) : List Byte :=
  be32 r.second.toNat ++ be8 r.xf.val ++ be16 r.meanMagnitude ++ signed16 r.current ++ be16 r.theta
    ++ be8 r.reported.num ++ be8 r.quality.code ++ be8 r.station.rank

/-- A bank record's code byte: the number of its code, 0 for none. -/
def codeNumber : Option ErrorCode → Nat
  | some c => c.number
  | none => 0

/-- A bank record, 10 bytes. -/
def bankBytes (b : BankId) (r : BankRec) : List Byte :=
  be8 b.index.val ++ be8 (r.valid.toNat + 2 * r.uncorrected.toNat + 4 * r.overflow.toNat) ++ be8 (codeNumber r.code)
    ++ [r.subject] ++ be32 r.second.toNat ++ be16 r.count

end Sys2Proof.Machine
end

