-- ==== Sys2Proof/Machine/State.lean ====
section
/-! DEFINITION. The state of the part, block by block, the reasons a step can stop, and the state after reset. -/

namespace Sys2Proof.Machine

/-- The reasons the part stops with a fault. There are none: the manual gives every command an effect in every state
(what it absorbs it reports to an error bank), so no meaning faults and no difference from the part arises here. -/
inductive Fault where
deriving DecidableEq, Repr

/-- The reasons a command is refused. -/
inductive Refusal where
  /-- Raised by a refused arm of `exec` alone, for a command that has no meaning yet; no arm is refused now. Safe: the
  machine stops where the part goes on. -/
  | notModelled (mnemonic : String)
deriving DecidableEq, Repr

/-- The state of the Q4016, and the queue of the commands that wait. -/
structure State where
  /-- power absent, RESET held, restore pending or running (R165, R179) -/
  phase : Phase
  /-- 0x80 plus the straps as sampled at the last cold start (R165) -/
  stationAddress : Byte
  /-- the live setup record (R170) -/
  setup : Setup
  /-- the live channel entries (R1) -/
  channelEntries : Vector ChannelEntry 40
  /-- the live transformer entries (R29) -/
  xfEntries : Vector XfEntry 16
  /-- the channel records (R4, R92) -/
  channels : Vector ChannelRec 40
  /-- the transformer records (R33, R57, R80) -/
  xfs : Vector XfRec 16
  /-- the evaluator's member map (R32) -/
  memberMap : Vector (Option (Xf × Slot)) 40
  /-- the station record (R97) -/
  station : StationRec
  /-- ALARM OUT asserted (R70) -/
  alarmOut : Bool
  /-- STORM OUT asserted (R107) -/
  stormOut : Bool
  /-- the event queue and its report floor (R111, R118) -/
  queue : EventQueue
  /-- the capture recorder (R127, R128) -/
  recorder : Recorder
  /-- the error banks, by bank number (R139, R140) -/
  banks : Vector BankRec 7
  /-- ports, queues and slots (chapter 9) -/
  frames : FrameHandler
  /-- the uptime counter (R161) -/
  clock : Clock
  /-- a RESTART has been accepted and its response has not left port B (R181) -/
  restartArmed : Bool
  /-- the store write in progress (R177) -/
  write : Option StoreWrite
  /-- the nonvolatile images (R177) -/
  store : Store
  /-- the model's own count of short RESET spells drawn, the index of the next free value (log entry 9) -/
  shortSpells : Nat
  /-- the events that come inside the next request for all, those of one place in their order: brought from outside,
  as the commands that wait are (log entry 13) -/
  inside : List Interposed
  /-- the commands that wait, first in, first out -/
  pending : List Instr
deriving DecidableEq, Repr

/-- The part right after the release of RESET, at the bypass opening of a cold start (R165, R166): the restore is
pending and every block holds its cold-start values. DESIGN CHOICE (log entry 1): the store holds factory default
images, and every strap is open (each reads 1, R187), which gives the station address 0xBF. -/
def State.reset : State :=
  { phase := .restoring
    stationAddress := 0xBF
    setup := Setup.factory
    channelEntries := Vector.replicate 40 ChannelEntry.factory
    xfEntries := Vector.replicate 16 XfEntry.factory
    channels := Vector.replicate 40 ChannelRec.off
    xfs := Vector.replicate 16 XfRec.off
    memberMap := Vector.replicate 40 none
    station := StationRec.initial
    alarmOut := false
    stormOut := false
    queue := EventQueue.initial
    recorder := Recorder.initial
    banks := Vector.replicate 7 BankRec.empty
    frames := FrameHandler.initial
    clock := Clock.initial
    restartArmed := false
    write := none
    store := Store.factory
    shortSpells := 0
    inside := []
    pending := [] }

end Sys2Proof.Machine
end

