-- ==== Sys2Proof/Machine/Flags.lean ====
section
/-! DEFINITION. Every flag that the part derives from its state: fill and NEARLY FULL, eligible events, any bank VALID,
the ALARM OUT condition, the quorum condition, in-service conditions and the guard. -/

namespace Sys2Proof.Machine

/-- The differences of two capture indices, modulo 2^32 (R128). -/
def indexDistance (later earlier : Word32) : Nat := (later - earlier).toNat

/-- Fill (R130). -/
def Recorder.fill (r : Recorder) : Nat := if r.overrun then Config.ringSlots else indexDistance r.run r.held

/-- NEARLY FULL (R130). -/
def Recorder.nearlyFull (r : Recorder) : Bool := Config.nearlyFullFill ≤ r.fill

/-- The count of readable records, a (R131). -/
def Recorder.readable (r : Recorder) : Nat := if r.filled then Config.ringSlots else r.run.toNat

/-- The number of records at or above a floor. -/
def countAtOrAbove (reportFloor : Nat) (rs : List EventRec) : Nat := rs.countP (fun r => reportFloor ≤ r.priority)

/-- At least one record is at or above the floor (R124). -/
def EventQueue.eligible (q : EventQueue) : Bool := q.records.any (fun r => q.reportFloor ≤ r.priority)

/-- At least one bank has VALID set (R149). -/
def State.anyBankValid (s : State) : Bool := BankId.inOrder.any (fun b => (s.banks[b.index]).valid)

/-- The transformer asserts ALARM OUT: in service with its unacknowledged flag set (R70). -/
def XfRec.alarming (r : XfRec) : Bool := r.inService && r.unack

/-- At least one in-service transformer has its flag set (R70). -/
def State.anyAlarming (s : State) : Bool := (List.finRange 16).any (fun t => (s.xfs[t]).alarming)

/-- ALERT or ALARM (R104). -/
def Level.alertOrAbove (l : Level) : Bool := 2 ≤ l.num

/-- The transformer counts toward the quorum: in service with its reported level at ALERT or above (R104). -/
def XfRec.counted (r : XfRec) : Bool := r.inService && r.reported.alertOrAbove

/-- The number of in-service transformers whose reported level is ALERT or ALARM (R104). -/
def State.countedXfs (s : State) : Nat := (List.finRange 16).countP (fun t => (s.xfs[t]).counted)

/-- The quorum condition: Q ≠ 0 and the alert count at least Q (R97). -/
def quorumCondition (quorum alertCount : Nat) : Bool := quorum ≠ 0 ∧ quorum ≤ alertCount

/-- A channel is in a state other than OFF. -/
def State.anyChannelInService (s : State) : Bool :=
  (List.finRange 40).any (fun c => (s.channels[c]).state ≠ .off)

/-- A channel entry lies inside the guard span (R175). -/
def GuardSpan.guardsChannel (g : GuardSpan) (c : Channel) : Bool :=
  match g with
  | .none => false
  | .topQuarter => 30 ≤ c.val
  | .topHalf => 20 ≤ c.val
  | .all => true

/-- A transformer entry lies inside the guard span (R175). -/
def GuardSpan.guardsXf (g : GuardSpan) (t : Xf) : Bool :=
  match g with
  | .none => false
  | .topQuarter => 12 ≤ t.val
  | .topHalf => 8 ≤ t.val
  | .all => true

/-- The setup record lies inside the guard span (R175). -/
def GuardSpan.guardsSetup (g : GuardSpan) : Bool := g == .all

/-- An own frame is waiting for port B: the response slot is READY or the status slot holds a frame (R164). -/
def FrameHandler.ownWaiting (f : FrameHandler) : Bool :=
  match f.response with
  | .ready _ => true
  | .free => f.status.isSome
  | .pending _ => f.status.isSome
  | .sending => f.status.isSome

/-- The bypass switch joins the two ports: power is absent or RESET is held (R165). -/
def State.bypassClosed (s : State) : Bool :=
  match s.phase with
  | .powerAbsent => true
  | .heldInReset => true
  | .restoring => false
  | .running => false

/-- An uptime second is a nonzero multiple of the status interval: the status timer expires at it (R161). -/
def State.statusSecond (s : State) (second : Word32) : Bool :=
  second.toNat ≠ 0 ∧ second.toNat % s.setup.statusInterval = 0

/-- Milliseconds left on a timer, rounded up; none when it is stopped (R186). -/
def ticksToMs (ticks : Nat) : Nat := (ticks + (Config.ticksPerMs - 1)) / Config.ticksPerMs

/-- Whole seconds left on a timer, rounded up (R110). -/
def ticksToSeconds (ticks : Nat) : Nat := (ticks + (Config.ticksPerSecond - 1)) / Config.ticksPerSecond

end Sys2Proof.Machine
end

