-- ==== Sys2Proof/Machine/Ops.lean ====
section
/-! DEFINITION. The shared operations: reading and updating one part of the state, the event queue's taking of a
change, a bank's taking of a report, the two output lines, the capture recorder, the own-frame slots, the two
transmitters, and the timers. -/

namespace Sys2Proof.Machine

/-! ### Updates of one part of the state -/

def State.setChannel (s : State) (c : Channel) (r : ChannelRec) : State := { s with channels := s.channels.set c r }
def State.setXf (s : State) (t : Xf) (r : XfRec) : State := { s with xfs := s.xfs.set t r }
def State.setStation (s : State) (r : StationRec) : State := { s with station := r }
def State.setQueue (s : State) (q : EventQueue) : State := { s with queue := q }
def State.setRecorder (s : State) (r : Recorder) : State := { s with recorder := r }
def State.setBank (s : State) (b : BankId) (r : BankRec) : State := { s with banks := s.banks.set b.index r }
def State.setFrames (s : State) (f : FrameHandler) : State := { s with frames := f }
def State.setAlarmOut (s : State) (b : Bool) : State := { s with alarmOut := b }
def State.setStormOut (s : State) (b : Bool) : State := { s with stormOut := b }
def State.setWrite (s : State) (w : Option StoreWrite) : State := { s with write := w }
def State.setSetup (s : State) (e : Setup) : State := { s with setup := e }
def State.setChannelEntry (s : State) (c : Channel) (e : ChannelEntry) : State :=
  { s with channelEntries := s.channelEntries.set c e }
def State.setXfEntry (s : State) (t : Xf) (e : XfEntry) : State := { s with xfEntries := s.xfEntries.set t e }

/-- The record of channel `c`. -/
def State.channel (s : State) (c : Channel) : ChannelRec := s.channels[c]

/-- The record of transformer `t`. -/
def State.xf (s : State) (t : Xf) : XfRec := s.xfs[t]

/-- The live entry of channel `c`. -/
def State.channelEntry (s : State) (c : Channel) : ChannelEntry := s.channelEntries[c]

/-- The live entry of transformer `t`. -/
def State.xfEntry (s : State) (t : Xf) : XfEntry := s.xfEntries[t]

/-- The record of bank `b`. -/
def State.bank (s : State) (b : BankId) : BankRec := s.banks[b.index]

/-- Channel `c`'s record changed by `f`. -/
def State.mapChannel (s : State) (c : Channel) (f : ChannelRec → ChannelRec) : State := s.setChannel c (f (s.channel c))

/-- Transformer `t`'s record changed by `f`. -/
def State.mapXf (s : State) (t : Xf) (f : XfRec → XfRec) : State := s.setXf t (f (s.xf t))

/-! ### The event queue (chapter 6) -/

/-- The priority of one change (R114). -/
def changePriority (key : EventKey) (fromRank toRank : Nat) : Nat :=
  match key with
  | .level _ => if fromRank = levelOffRank ∨ toRank = levelOffRank then 1 else max fromRank toRank - 1
  | .channel _ => if toRank = ChannelState.lost.rank ∨ toRank = ChannelState.suspect.rank then 2 else 1
  | .station => if toRank = StationState.storm.rank then 3 else if toRank = StationState.watch.rank then 2 else 1
  | .fault _ => if toRank = HeldClass.uncorrected.rank then 3 else 2

/-- The record that a change appends (R115). -/
def newRecord (now : Word32) (key : EventKey) (fromRank toRank : Nat) : EventRec :=
  { key := key, firstSecond := now, lastSecond := now, fromRank := fromRank, toRank := toRank,
    peak := max fromRank toRank, changes := 1, priority := changePriority key fromRank toRank }

/-- The fold of a change into a record (R116). -/
def foldRecord (now : Word32) (fromRank toRank : Nat) (r : EventRec) : EventRec :=
  { r with toRank := toRank, lastSecond := now, peak := max r.peak toRank, changes := sat255 r.changes,
           priority := max r.priority (changePriority r.key fromRank toRank) }

/-- A change folds into the record that holds its key, or else appends a record at the tail (R115, R116). -/
def takeInto (now : Word32) (key : EventKey) (fromRank toRank : Nat) : List EventRec → List EventRec
  | [] => [newRecord now key fromRank toRank]
  | r :: rs =>
    if r.key = key then foldRecord now fromRank toRank r :: rs else r :: takeInto now key fromRank toRank rs

/-- The event queue takes one change, whole (R111, R117). -/
def takeChange (key : EventKey) (fromRank toRank : Nat) (s : State) : State :=
  s.setQueue { s.queue with records := takeInto s.clock.uptime key fromRank toRank s.queue.records }

/-- The walk of READ EVENTS: up to `n` records at or above the floor are selected, oldest first; the others remain in
their order (R120). -/
def selectEvents (reportFloor : Nat) : Nat → List EventRec → List EventRec × List EventRec
  | _, [] => ([], [])
  | n, r :: rs =>
    if n ≠ 0 ∧ reportFloor ≤ r.priority then
      (r :: (selectEvents reportFloor (n - 1) rs).1, (selectEvents reportFloor (n - 1) rs).2)
    else ((selectEvents reportFloor n rs).1, r :: (selectEvents reportFloor n rs).2)

/-! ### The error banks (chapter 8) -/

/-- A bank record after it takes a report (R141, R142). -/
def BankRec.take (now : Word32) (code : ErrorCode) (subject : Byte) (b : BankRec) : BankRec :=
  if b.valid then
    let counted := { b with overflow := true, count := if b.count < 65535 then b.count + 1 else b.count }
    if code.errorClass = .uncorrected ∧ b.uncorrected = false then
      { counted with uncorrected := true, code := some code, subject := subject, second := now }
    else counted
  else
    { valid := true, uncorrected := code.errorClass = .uncorrected, overflow := false, code := some code,
      subject := subject, second := now, count := 1 }

/-- While the restore is pending only the TABLE bank takes reports (R144); no bank does while the part is unpowered or
held in reset (R150). -/
def State.bankTakes (s : State) (b : BankId) : Bool :=
  match s.phase with
  | .running => true
  | .restoring => b == .table
  | .powerAbsent => false
  | .heldInReset => false

/-- A bank's record becomes `r`, and a change of the class it holds hands the event queue a FAULT change (R143). -/
def replaceBank (b : BankId) (r : BankRec) (s : State) : State :=
  if (s.bank b).heldClass = r.heldClass then s.setBank b r
  else takeChange (.fault b) (s.bank b).heldClass.rank r.heldClass.rank (s.setBank b r)

/-- A block reports an error to a bank (R139). -/
def report (b : BankId) (code : ErrorCode) (subject : Byte) (s : State) : State :=
  if s.bankTakes b then replaceBank b ((s.bank b).take s.clock.uptime code subject) s else s

/-- The subject byte of a channel or transformer index. -/
def subjectOf (n : Nat) : Byte := BitVec.ofNat 8 n

/-- The subject of a report that names nothing (section 8.5). -/
def noSubject : Byte := 255

/-- The LINK bank of a port (R153). -/
def linkBank : Port → BankId
  | .a => .linkA
  | .b => .linkB

/-! ### The output lines -/

/-- ALARM OUT is set again from the flags of the in-service transformers (R70). -/
def refreshAlarmOut (s : State) : State := s.setAlarmOut s.anyAlarming

/-! ### The capture recorder (chapter 7) -/

/-- The slot of a capture index (R127). -/
def ringSlot (i : Word32) : Fin Config.ringSlots := ⟨i.toNat % Config.ringSlots, Nat.mod_lt _ (by decide)⟩

/-- The recorder takes one record, in the order of R129. -/
def Recorder.write (c : CaptureRec) (r : Recorder) : Recorder :=
  let run := r.run + 1
  { ring := r.ring.set (ringSlot r.run) (some c)
    run := run
    held := r.held
    filled := r.filled || run == BitVec.ofNat 32 Config.ringSlots
    overrun := r.overrun || Config.ringSlots < indexDistance run r.held }

/-- The read case of a start index (R133). -/
def Recorder.readCase (r : Recorder) (start : Word32) : ReadCase :=
  if indexDistance r.run start ≤ r.readable then .current
  else if indexDistance r.run start < 2147483648 then .overrun
  else .ahead

/-- The effective start (R133). -/
def Recorder.effectiveStart (r : Recorder) (start : Word32) : Word32 :=
  match r.readCase start with
  | .current => start
  | .overrun => r.run - BitVec.ofNat 32 r.readable
  | .ahead => r.run

/-- The lost count (R133). -/
def Recorder.lostCount (r : Recorder) (start : Word32) : Nat :=
  match r.readCase start with
  | .current => 0
  | .overrun => indexDistance r.run start - r.readable
  | .ahead => 0

/-- The number of records returned: the smaller of n and the distance from the effective start to the run index (R134). -/
def Recorder.returnCount (r : Recorder) (start : Word32) (n : Nat) : Nat :=
  min n (indexDistance r.run (r.effectiveStart start))

/-- The records held at `n` successive capture indices from `start`. -/
def Recorder.recordsFrom (r : Recorder) (start : Word32) (n : Nat) : List CaptureRec :=
  (List.range n).filterMap (fun i => r.ring[ringSlot (start + BitVec.ofNat 32 i)])

/-- The recorder after an accepted READ CAPTURE (R135). -/
def Recorder.afterRead (r : Recorder) (start : Word32) : Recorder :=
  { r with held := r.effectiveStart start, overrun := false }

/-! ### The own-frame slots and the transmitters (chapter 9) -/

/-- An own frame is about to become waiting: if none was, the forward run is set to 0 (R164). -/
def FrameHandler.noteOwn (f : FrameHandler) : FrameHandler := if f.ownWaiting then f else { f with forwardRun := 0 }

/-- The response slot enters READY with a frame (R159). -/
def FrameHandler.putResponse (frame : List Byte) (f : FrameHandler) : FrameHandler :=
  { f.noteOwn with response := .ready frame }

/-- The status slot takes a frame, in place of any it holds (R160). -/
def FrameHandler.putStatus (frame : List Byte) (f : FrameHandler) : FrameHandler :=
  { f.noteOwn with status := some frame }

/-- Step 1 of the arbiter's decision applies: an own frame waits, and the queue is empty or the run is 8 (R164). -/
def FrameHandler.ownTurn (f : FrameHandler) : Bool :=
  f.ownWaiting && (f.aToB.isEmpty || Config.maxForwardRun ≤ f.forwardRun)

/-- Step 1: the response if one is READY, otherwise the status frame; the forward run becomes 0 (R164). -/
def FrameHandler.startOwn (f : FrameHandler) : FrameHandler :=
  match f.response, f.status with
  | .ready frame, _ => { f with response := .sending, txB := some (.response, frame), forwardRun := 0 }
  | _, some frame => { f with status := none, txB := some (.status, frame), forwardRun := 0 }
  | _, none => f

/-- Step 2: the oldest frame of the A→B queue; the forward run counts it while an own frame waits (R164). -/
def FrameHandler.startForward (f : FrameHandler) : FrameHandler :=
  match f.aToB with
  | [] => f
  | frame :: rest =>
    { f with aToB := rest, txB := some (.forward, frame),
             forwardRun := if f.ownWaiting then f.forwardRun + 1 else f.forwardRun }

/-- The arbiter's decision, made whenever the port B transmitter is free (R164). -/
def FrameHandler.arbitrate (f : FrameHandler) : FrameHandler :=
  match f.txB with
  | some _ => f
  | none => if f.ownTurn then f.startOwn else f.startForward

/-- A free port A transmitter starts the oldest frame of the B→A queue (R157). -/
def FrameHandler.startPortA (f : FrameHandler) : FrameHandler :=
  match f.txA, f.bToA with
  | none, frame :: rest => { f with txA := some frame, bToA := rest }
  | _, _ => f

/-- The arbiter decides for the part. -/
def arbiter (s : State) : State := s.setFrames s.frames.arbitrate

/-- Port A starts a frame if it can. -/
def portA (s : State) : State := s.setFrames s.frames.startPortA

/-! ### Timers (R4, R97) -/

/-- The stale timer at full length: 3 nominal periods (R15). -/
def State.fullStale (s : State) : Option Nat := some (Config.stalePeriods * Config.ticksPerPeriod s.setup.freq)

/-- The lost timer of channel `c` at full length (R17). -/
def State.fullLost (s : State) (c : Channel) : Option Nat :=
  some ((s.channelEntry c).lostLimit * Config.ticksPerPeriod s.setup.freq)

/-- The hold timer at full length (R97). -/
def State.fullHold (s : State) : Option Nat := some (s.setup.holdTime * Config.ticksPerSecond)

/-- A running timer after `n` ticks; it stands at 0 until its expiry is taken. -/
def runTimer (n : Nat) (timer : Option Nat) : Option Nat := timer.map (fun left => left - n)

/-- A channel record's timers after `n` ticks. -/
def ChannelRec.runTimers (n : Nat) (r : ChannelRec) : ChannelRec :=
  { r with staleTimer := runTimer n r.staleTimer, lostTimer := runTimer n r.lostTimer }

/-- Every timer after `n` ticks of the part's own oscillator. -/
def runTimers (n : Nat) (s : State) : State :=
  { s with channels := tabulate (fun c => (s.channels[c]).runTimers n)
           station := { s.station with holdTimer := runTimer n s.station.holdTimer } }

end Sys2Proof.Machine
end

