-- ==== Sys2Proof/Machine/Storm.lean ====
section
/-! DEFINITION. The storm monitor (chapter 5): station changes, the rate norm and its judgement, the alert count and
the quorum, withdrawal of an axis rate, and the hold timer's expiry. -/

namespace Sys2Proof.Machine

/-- The station enters a state: STORM OUT is set from it and a STATION change is enqueued (R105, R107). A state that
does not change makes no change. -/
def enterStation (new : StationState) (s : State) : State :=
  if s.station.state = new then s
  else
    takeChange .station s.station.state.rank new.rank
      ((s.setStation { s.station with state := new }).setStormOut (new == .storm))

/-- The hold timer starts or restarts at full length. -/
def startHold (s : State) : State := s.setStation { s.station with holdTimer := s.fullHold }

/-- The hold timer stops. -/
def stopHold (s : State) : State := s.setStation { s.station with holdTimer := none }

/-- The watch run becomes `n`. -/
def setWatchRun (n : Nat) (s : State) : State := s.setStation { s.station with watchRun := n }

/-- A new R in CALM (R100). -/
def judgeCalm (r : Nat) (s : State) : State :=
  if s.setup.stormRate ≤ r then enterStation .storm (startHold (setWatchRun 0 s))
  else if s.setup.watchRate ≤ r then
    if s.station.watchRun + 1 = 3 then enterStation .watch (startHold (setWatchRun 0 s))
    else setWatchRun (s.station.watchRun + 1) s
  else setWatchRun 0 s

/-- A new R in WATCH (R101). -/
def judgeWatch (r : Nat) (s : State) : State :=
  if s.setup.stormRate ≤ r then enterStation .storm (startHold s)
  else if s.setup.watchRate ≤ r then startHold s
  else s

/-- A new R in STORM (R102). -/
def judgeStorm (r : Nat) (s : State) : State :=
  if s.setup.stormRate ≤ r ∧ s.station.holdTimer.isSome then startHold s else s

/-- The monitor takes a new R into the station state. -/
def judgeNorm (r : Nat) (s : State) : State :=
  match s.station.state with
  | .calm => judgeCalm r s
  | .watch => judgeWatch r s
  | .storm => judgeStorm r s

/-- The rate norm of the two axis rates as they stand (R99). -/
def StationRec.norm (r : StationRec) : Nat := rateNorm (axisMagnitude r.xRate) (axisMagnitude r.yRate)

/-- The axis rate of a notice is set (R98). -/
def StationRec.withRate (kind : ChannelKind) (rate : Int) (c : Channel) (r : StationRec) : StationRec :=
  match kind with
  | .fieldX => { r with xRate := some (rate, c) }
  | .fieldY => { r with yRate := some (rate, c) }
  | .neutral => r

/-- R is formed from the axis rates and becomes the latest R (R99). -/
def formNorm (s : State) : State :=
  judgeNorm s.station.norm (s.setStation { s.station with latestNorm := some s.station.norm })

/-- A rate notice: the axis rate is set, R is formed and judged (R98, R99). -/
def rateNotice (c : Channel) (kind : ChannelKind) (rate : Int) (s : State) : State :=
  formNorm (s.setStation (s.station.withRate kind rate c))

/-- An axis rate without the channel that a withdrawal names (R98). -/
def withdrawRate (c : Channel) : Option (Int × Channel) → Option (Int × Channel)
  | some (r, from') => if from' = c then none else some (r, from')
  | none => none

/-- A withdrawal notice: the axis rates that the channel gave become absent (R95, R98). -/
def withdrawalNotice (c : Channel) (s : State) : State :=
  s.setStation { s.station with xRate := withdrawRate c s.station.xRate, yRate := withdrawRate c s.station.yRate }

/-- The quorum becomes met: CALM and WATCH go to STORM, and the hold timer stops (R104). -/
def quorumBecomesMet (s : State) : State :=
  match s.station.state with
  | .calm => enterStation .storm (stopHold (setWatchRun 0 s))
  | .watch => enterStation .storm (stopHold (setWatchRun 0 s))
  | .storm => stopHold s

/-- Quorum met is formed anew from the live Q and the alert count (R104). -/
def formQuorum (s : State) : State :=
  let met := quorumCondition s.setup.quorum s.station.alertCount
  if met = s.station.quorumMet then s
  else if met then quorumBecomesMet (s.setStation { s.station with quorumMet := true })
  else startHold (s.setStation { s.station with quorumMet := false })

/-- The alert count after a notice that takes a transformer from one reported level to another (R73, R104). -/
def countAfter (old new : Level) (n : Nat) : Nat :=
  if old.alertOrAbove = new.alertOrAbove then n else if new.alertOrAbove then n + 1 else n - 1

/-- A level notice (R73). A removal from service is taken as a notice to QUIET, which leaves the count the same way. -/
def levelNotice (old new : Level) (s : State) : State :=
  formQuorum (s.setStation { s.station with alertCount := countAfter old new s.station.alertCount })

/-- The hold timer's expiry drops the station one state; a stopped timer cannot expire (R103). -/
def holdExpires (s : State) : State :=
  if s.station.holdTimer.isSome then
    match s.station.state with
    | .calm => s
    | .watch => enterStation .calm (stopHold (setWatchRun 0 s))
    | .storm => enterStation .watch (startHold s)
  else s

/-- At the restore-completion event the monitor forms the alert count from the reported levels, and the quorum from it
(R108, R109). -/
def stationTakeUp (s : State) : State :=
  formQuorum (s.setStation { s.station with alertCount := s.countedXfs })

end Sys2Proof.Machine
end

