-- ==== Sys2Proof/Machine/Evaluator.lean ====
section
/-! DEFINITION. The transformer evaluator and the thermal unit (chapters 2, 3 and 4): the reported level, the thermal
boundary with its capture test, completion and combination, the assembly, and the channel state-change notice. -/

namespace Sys2Proof.Machine

/-! ### Reported level (R63 to R67) -/

/-- The reported level a re-derivation gives (R63). -/
def candidateLevel (latch : Bool) (r : XfRec) : Level :=
  if latch && r.unack then .alarm else Level.higher r.levels.condition r.thermal

/-- The record after its reported level becomes `new`, with the flag as R64 and R65 say. -/
def XfRec.withReported (latch : Bool) (new : Level) (r : XfRec) : XfRec :=
  if r.reported = new then r
  else if new = .alarm then { r with reported := new, unack := true }
  else if r.reported = .alarm ∧ latch = false then { r with reported := new, unack := false }
  else { r with reported := new }

/-- The notices of a reported level that has changed from `old`: ALARM OUT, the LEVEL change, the level notice (R63). -/
def levelChanged (t : Xf) (old new : Level) (s : State) : State :=
  levelNotice old new (takeChange (.level t) old.rank new.rank (refreshAlarmOut s))

/-- The reported level of transformer `t` is re-derived, with its notices if it changes (R63). -/
def rederive (t : Xf) (s : State) : State :=
  let latch := (s.xfEntry t).latch
  let old := (s.xf t).reported
  let new := candidateLevel latch (s.xf t)
  if old = new then s else levelChanged t old new (s.mapXf t (XfRec.withReported latch new))

/-- ACKNOWLEDGE clears a set flag of transformer `t` (R67). -/
def acknowledgeFlag (t : Xf) (s : State) : State :=
  if (s.xf t).alarming then refreshAlarmOut (rederive t (s.mapXf t (fun r => { r with unack := false }))) else s

/-- The acknowledgement of transformer `t`, with the count of flags cleared so far (R67, R68). -/
def acknowledgeStep (p : State × Nat) (t : Xf) : State × Nat :=
  (acknowledgeFlag t p.1, if (p.1.xf t).alarming then p.2 + 1 else p.2)

/-! ### The second boundary (R81 to R91) -/

/-- Steps 3 and 4 of R81: the target, clamped with its report, and the new Θ. -/
def updateTheta (t : Xf) (aSec : Nat) (s : State) : State :=
  let e := s.xfEntry t
  let raw := thermalTargetRaw aSec e.coefficient
  let s := if 65535 < raw then report .compute .thermalClamp (subjectOf t.val) s else s
  s.mapXf t (fun r => { r with theta := thetaStep e.shift r.theta (min raw 65535) })

/-- Step 5 of R81: T from the new Θ, signalled to the evaluator when it changes (R87). -/
def updateThermalLevel (t : Xf) (s : State) : State :=
  let new := thermalLevelOf (s.xfEntry t) (s.xf t).theta (s.xf t).thermal
  if new = (s.xf t).thermal then s else rederive t (s.mapXf t (fun r => { r with thermal := new }))

/-- The capture test (R90). -/
def captureTest (t : Xf) (s : State) : Bool :=
  s.setup.captureLevel ≤ (s.xf t).reported.num || s.station.state.raised

/-- The capture record of a boundary (R91). -/
def captureRecord (t : Xf) (aSec : Nat) (s : State) : CaptureRec :=
  { second := s.clock.uptime, xf := t, meanMagnitude := aSec, current := (s.xf t).current, theta := (s.xf t).theta,
    reported := (s.xf t).reported, quality := (s.xf t).quality, station := s.station.state }

/-- Step 6 of R81: the capture test, and the record it hands the recorder. -/
def captureSecond (t : Xf) (aSec : Nat) (s : State) : State :=
  if captureTest t s then s.setRecorder (s.recorder.write (captureRecord t aSec s)) else s

/-- The thermal unit's work at a second boundary (R81). With c = 0 the thermal path is idle (R82). -/
def thermalBoundary (t : Xf) (sum : Nat) (s : State) : State :=
  let aSec := sum / s.setup.freq
  if (s.xfEntry t).coefficient = 0 then captureSecond t aSec s
  else captureSecond t aSec (updateThermalLevel t (updateTheta t aSec s))

/-! ### Completion (R43 to R46) -/

/-- The weighted output of one slot: 0 for an empty slot or a channel that contributes nothing (R44). -/
def slotContribution (s : State) (m : MemberSlot) : Int :=
  match m.channel with
  | none => 0
  | some c => if (s.channel c).state.contributes then m.weight * (s.channel c).output else 0

/-- The weighted sum of the contributing members (R44). -/
def weightedSum (t : Xf) (s : State) : Int :=
  ((List.finRange 4).map (fun i => slotContribution s (s.xfEntry t).slots[i])).sum

/-- Step 1 of R43: I_xf and A, with the clamp's report (R44). -/
def combine (t : Xf) (s : State) : State :=
  let raw := combineRaw (weightedSum t s)
  let current := clampTo (-5000) 5000 raw
  let s := if current = raw then s else report .compute .transformerClamp (subjectOf t.val) s
  s.mapXf t (fun r => { r with current := current, magnitude := current.natAbs })

/-- A used slot passes the quality tests: VALID, marked and unclipped (R45). An empty slot is not tested. -/
def slotSound (s : State) (marked : SlotSet) (m : MemberSlot) (i : Slot) : Bool :=
  match m.channel with
  | none => true
  | some c => (s.channel c).state == .valid && marked[i] && !(s.channel c).clipped

/-- Step 2 of R43: quality (R45). -/
def judgeQuality (t : Xf) (s : State) : State :=
  let sound := (List.finRange 4).all (fun i => slotSound s (s.xf t).marked (s.xfEntry t).slots[i] i)
  s.mapXf t (fun r => { r with quality := if sound then .good else .degraded })

/-- Step 3 of R43: the assembly record. -/
def closeAssembly (t : Xf) (s : State) : State :=
  s.mapXf t (fun r => { r with lastCompleted := r.pendingCycle, pendingCycle := none, marked := SlotSet.empty })

/-- Step 4 of R43: the level evaluation against the set in force, and the reported level (R58 to R63). -/
def evaluate (t : Xf) (s : State) : State :=
  let e := s.xfEntry t
  let raised := s.station.state.raised
  rederive t (s.mapXf t (fun r => { r with levels := evaluateLevels e raised r.magnitude r.levels }))

/-- Step 5 of R43: the second count, and the second boundary at the F-th completion (R46). -/
def countSecond (t : Xf) (s : State) : State :=
  let sum := (s.xf t).secondSum + (s.xf t).magnitude
  let count := (s.xf t).secondCount + 1
  if count = s.setup.freq then thermalBoundary t sum (s.mapXf t (fun r => { r with secondSum := 0, secondCount := 0 }))
  else s.mapXf t (fun r => { r with secondSum := sum, secondCount := count })

/-- A completion, its five steps in order (R43). -/
def complete (t : Xf) (s : State) : State :=
  countSecond t (evaluate t (closeAssembly t (judgeQuality t (combine t s))))

/-! ### Assembly (R36 to R42) -/

/-- Every slot of the wait set is marked. -/
def XfRec.allMarked (r : XfRec) : Bool := (List.finRange 4).all (fun i => !(r.waitSet[i]) || r.marked[i])

/-- The wait set is empty. -/
def XfRec.waitEmpty (r : XfRec) : Bool := (List.finRange 4).all (fun i => !(r.waitSet[i]))

/-- The assembly completes if every slot of the wait set is marked (R37, R40). -/
def completeIfMarked (t : Xf) (s : State) : State := if (s.xf t).allMarked then complete t s else s

/-- Slot `j` joins the marked set (R37). -/
def markSlot (t : Xf) (j : Slot) (s : State) : State := s.mapXf t (fun r => { r with marked := r.marked.set j true })

/-- A new assembly opens at `c` with `j` as its one marked slot (R38, R40), and completes if `j` is all it waits for. -/
def openAssembly (t : Xf) (j : Slot) (c : Cycle) (s : State) : State :=
  completeIfMarked t
    (s.mapXf t (fun r => { r with pendingCycle := some c, marked := SlotSet.empty.set j true }))

/-- LATE MEMBER for one slot of the wait set that is not marked (R38). -/
def reportLate (t : Xf) (r : XfRec) (s : State) (i : Slot) : State :=
  if r.waitSet[i] && !(r.marked[i]) then report .assembly .lateMember (subjectOf t.val) s else s

/-- LATE MEMBER for each late slot, in slot order (R38). -/
def reportLateMembers (t : Xf) (s : State) : State := (List.finRange 4).foldl (reportLate t (s.xf t)) s

/-- A block arrival at the assembly of an in-service transformer (R36 to R40). -/
def assemblyArrival (t : Xf) (j : Slot) (c : Cycle) (s : State) : State :=
  match (s.xf t).pendingCycle with
  | some p =>
    if cycleDistance p c = 0 then completeIfMarked t (markSlot t j s)
    else if 0 < cycleDistance p c then openAssembly t j c (complete t (reportLateMembers t s))
    else report .assembly .lateBlock (subjectOf t.val) s
  | none =>
    match (s.xf t).lastCompleted with
    | some l =>
      if cycleDistance l c ≤ 0 then report .assembly .lateBlock (subjectOf t.val) s else openAssembly t j c s
    | none => openAssembly t j c s

/-- Conditioning hands a member's block to the evaluator, which routes it by the member map (R24, R32). -/
def blockArrival (ch : Channel) (c : Cycle) (s : State) : State :=
  match s.memberMap[ch] with
  | none => s
  | some (t, j) => if (s.xf t).inService then assemblyArrival t j c s else s

/-- Every used slot's channel is VALID (R35). -/
def allMembersValid (t : Xf) (s : State) : Bool :=
  (List.finRange 4).all (fun i =>
    match (s.xfEntry t).slots[i].channel with
    | none => true
    | some c => (s.channel c).state == .valid)

/-- Quality outside completions, after a member's notice (R35). -/
def noticeQuality (t : Xf) (s : State) : State :=
  if (s.xf t).waitEmpty then s.mapXf t (fun r => { r with quality := .noData })
  else if (s.xf t).quality = .good ∧ allMembersValid t s = false then
    s.mapXf t (fun r => { r with quality := .degraded })
  else s

/-- The wait set of an in-service transformer has become empty: the pending assembly is discarded, the last completed
cycle becomes absent, the second is dropped, and NO DATA is reported (R35, R42). -/
def waitSetEmptied (t : Xf) (s : State) : State :=
  report .assembly .noData (subjectOf t.val)
    (s.mapXf t (fun r =>
      { r with pendingCycle := none, marked := SlotSet.empty, lastCompleted := none, secondSum := 0, secondCount := 0 }))

/-- What a shrinkage of the wait set does to the assembly (R42). -/
def afterShrinkage (t : Xf) (s : State) : State :=
  if (s.xf t).waitEmpty then waitSetEmptied t s
  else if (s.xf t).pendingCycle.isSome then completeIfMarked t s
  else s

/-- A member's notice at an in-service transformer: the wait set, the quality and the assembly (R34, R35, R41, R42). -/
def memberNotice (t : Xf) (j : Slot) (live : Bool) (s : State) : State :=
  let was := (s.xf t).waitSet[j]
  let s := noticeQuality t (s.mapXf t (fun r => { r with waitSet := r.waitSet.set j live }))
  if was && !live then afterShrinkage t s else s

/-- Conditioning's state-change notice for a channel, routed by the member map (R22, R32). -/
def channelNotice (ch : Channel) (s : State) : State :=
  match s.memberMap[ch] with
  | none => s
  | some (t, j) => if (s.xf t).inService then memberNotice t j (s.channel ch).state.live s else s

/-! ### Member map and service (R32, R47, R48, R51) -/

/-- The slot of an entry that names channel `c`, if any. -/
def XfEntry.slotOf (e : XfEntry) (c : Channel) : Option Slot :=
  (List.finRange 4).find? (fun i => e.slots[i].channel = some c)

/-- The place that the live transformer entries give channel `c` (R32). -/
def placeOf (s : State) (c : Channel) : Option (Xf × Slot) :=
  (List.finRange 16).findSome? (fun t => ((s.xfEntry t).slotOf c).map (fun i => (t, i)))

/-- The member map is built from the live transformer entries (R32). -/
def rebuildMemberMap (s : State) : State := { s with memberMap := tabulate (placeOf s) }

/-- The wait set of transformer `t` from its members' present states (R34). -/
def waitSetOf (t : Xf) (s : State) : SlotSet :=
  tabulate (fun i =>
    match (s.xfEntry t).slots[i].channel with
    | none => false
    | some c => (s.channel c).state.live)

/-- The record that a placing in service gives, with the given Θ and T (R47, R51, R52). -/
def placedRecord (t : Xf) (theta : Nat) (thermal : Level) (s : State) : XfRec :=
  { XfRec.offWith theta thermal with inService := true, waitSet := waitSetOf t s }

/-- Placing transformer `t` in service at its write completion (R47). -/
def placeXf (t : Xf) (s : State) : State :=
  levelNotice .quiet .quiet
    (takeChange (.level t) levelOffRank Level.quiet.rank
      (refreshAlarmOut (s.setXf t (placedRecord t 0 .quiet s))))

/-- Removing transformer `t` from service at its write completion (R48). -/
def removeXf (t : Xf) (s : State) : State :=
  levelNotice (s.xf t).reported .quiet
    (takeChange (.level t) (s.xf t).reported.rank levelOffRank
      (refreshAlarmOut (s.setXf t (XfRec.offWith (s.xf t).theta (s.xf t).thermal))))

/-- Θ and T become 0 where the thermal coefficient is 0 (R80). -/
def zeroIdleThermal (t : Xf) (s : State) : State :=
  if (s.xfEntry t).coefficient = 0 then s.mapXf t (fun r => { r with theta := 0, thermal := .quiet }) else s

/-- Transformer `t` at the restore-completion event: in service if its entry says so, its reported level formed from
the kept T, without a LEVEL change or a level notice (R51, R52, R63, R77). -/
def takeUpXf (t : Xf) (s : State) : State :=
  let s := zeroIdleThermal t s
  if (s.xfEntry t).inService then
    let r := placedRecord t (s.xf t).theta (s.xf t).thermal s
    refreshAlarmOut (s.setXf t (r.withReported (s.xfEntry t).latch (candidateLevel (s.xfEntry t).latch r)))
  else s

end Sys2Proof.Machine
end

