-- ==== Sys2Proof/Machine/Conditioning.lean ====
section
/-! DEFINITION. Channel conditioning (chapter 1) and the per-second step of a field channel (section 5.1): channel state
changes, the reseed, the steps of a matched input, the examination of a cycle block, the two timer expiries and the
service changes. -/

namespace Sys2Proof.Machine

/-- FIELD X or FIELD Y. -/
def ChannelKind.isField : ChannelKind → Bool
  | .neutral => false
  | .fieldX => true
  | .fieldY => true

/-- The kind of channel `ch`, from its live entry. -/
def State.kindOf (s : State) (ch : Channel) : ChannelKind := (s.channelEntry ch).kind

/-- A channel changes state: the CHANNEL change is enqueued and the evaluator is sent the notice (R22, R23). -/
def changeChannelState (ch : Channel) (new : ChannelState) (s : State) : State :=
  channelNotice ch
    (takeChange (.channel ch) (s.channel ch).state.rank new.rank (s.mapChannel ch (fun r => { r with state := new })))

/-- A FIELD channel's per-second fields are cleared, with the withdrawal notice (R92, R95). -/
def clearSecond (ch : Channel) (s : State) : State :=
  if (s.kindOf ch).isField then
    withdrawalNotice ch (s.mapChannel ch (fun r => { r with second := FieldSecond.cleared }))
  else s

/-- The record after a reseed (R20); the per-second fields are cleared beside it. -/
def ChannelRec.reseeded (k : Nat) (r : ChannelRec) : ChannelRec :=
  { r with y := 0, mean := 0, lastCycle := none, clipped := false, degraded := 0, good := 0, settle := settleStart k }

/-- A reseed (R20). -/
def reseed (ch : Channel) (s : State) : State :=
  clearSecond ch (s.mapChannel ch (ChannelRec.reseeded (s.channelEntry ch).shift))

/-- A reseed, and entry to SETTLING from any other state (R10, R11, R17). In SETTLING the state does not change and no
notice is made. -/
def settleAgain (ch : Channel) (s : State) : State :=
  if (s.channel ch).state = .settling then reseed ch s
  else changeChannelState ch .settling ((reseed ch s).mapChannel ch (fun r => { r with staleTimer := none }))

/-! ### The per-second step (R92 to R94) -/

/-- A rate from two second means, clamped with its report, and the notice to the storm monitor (R94). -/
def formRate (ch : Channel) (previous latest : Int) (s : State) : State :=
  let raw := latest - previous
  let r := clampTo (-32767) 32767 raw
  let s := if r = raw then s else report .compute .rateClamp (subjectOf ch.val) s
  rateNotice ch (s.kindOf ch) r (s.mapChannel ch (fun q => { q with second := { q.second with latestRate := some r } }))

/-- The field second boundary (R93). -/
def fieldBoundary (ch : Channel) (sum : Int) (s : State) : State :=
  let mean := sum / (s.setup.freq : Int)
  let before := (s.channel ch).second.latestMean
  let s := s.mapChannel ch (fun q =>
    { q with second := { q.second with sum := 0, count := 0, previousMean := before, latestMean := some mean } })
  match before with
  | none => s
  | some previous => formRate ch previous mean s

/-- One output of a FIELD channel goes to its per-second step (R92). -/
def perSecondAdd (ch : Channel) (s : State) : State :=
  let sum := (s.channel ch).second.sum + (s.channel ch).output
  let count := (s.channel ch).second.count + 1
  if count = s.setup.freq then fieldBoundary ch sum s
  else s.mapChannel ch (fun q => { q with second := { q.second with sum := sum, count := count } })

/-- An output goes to the per-second step when the channel is a FIELD channel in VALID or SUSPECT (R25). -/
def fieldOutput (ch : Channel) (s : State) : State :=
  if (s.kindOf ch).isField && (s.channel ch).state.live then perSecondAdd ch s else s

/-! ### The stages (R18 to R21) -/

/-- Stage 1: the cycle mean and the clipped flag (R18). -/
def stageMean (ch : Channel) (samples : List Int) (s : State) : State :=
  if samples.any sampleInvalid then
    report .input .invalidSamples (subjectOf ch.val) (s.mapChannel ch (fun r => { r with clipped := false }))
  else if samples.any sampleClipped then
    report .input .clipped (subjectOf ch.val)
      (s.mapChannel ch (fun r => { r with mean := cycleMean samples, clipped := true }))
  else s.mapChannel ch (fun r => { r with mean := cycleMean samples, clipped := false })

/-- Stage 2: the filter; the first block of a reseed sets y at once (R19, R20). -/
def stageFilter (ch : Channel) (first : Bool) (s : State) : State :=
  let k := (s.channelEntry ch).shift
  s.mapChannel ch (fun r => { r with y := if first then r.mean * 256 else filterStep k r.y r.mean })

/-- Stage 3: the output value, with the clamp's report (R21). -/
def stageScale (ch : Channel) (s : State) : State :=
  let e := s.channelEntry ch
  let raw := scaleRaw e (s.channel ch).y
  let out := clampTo (-(outputLimit e.kind)) (outputLimit e.kind) raw
  let s := if out = raw then s else report .compute .channelClamp (subjectOf ch.val) s
  s.mapChannel ch (fun r => { r with output := out })

/-- One missing cycle of a gap, with the held mean (R19, R25). -/
def gapCycle (ch : Channel) (s : State) : State := fieldOutput ch (stageScale ch (stageFilter ch false s))

/-- The missing cycles of a gap, each from the state the one before left. -/
def gapCycles (ch : Channel) : Nat → State → State
  | 0, s => s
  | n + 1, s => gapCycles ch n (gapCycle ch s)

/-! ### Counts and the state changes they cause (R13, R14) -/

/-- The degraded or the good count of an accepted input (R14). -/
def ChannelRec.counted (bad : Bool) (r : ChannelRec) : ChannelRec :=
  if bad then { r with degraded := sat255 r.degraded, good := 0 } else { r with good := sat255 r.good, degraded := 0 }

/-- Both counts at 0. -/
def ChannelRec.countsCleared (r : ChannelRec) : ChannelRec := { r with degraded := 0, good := 0 }

/-- Settle remaining, and the entry to VALID it brings (R13). -/
def settleStep (ch : Channel) (s : State) : State :=
  let left := (s.channel ch).settle - 1
  let full := s.fullStale
  let s := s.mapChannel ch (fun r => { r with settle := left })
  if left = 0 then
    changeChannelState ch .valid (s.mapChannel ch (fun r => { r.countsCleared with staleTimer := full }))
  else s

/-- Step 4 of R7: the counts, settle remaining, and any state change they cause. -/
def countStep (ch : Channel) (first bad : Bool) (s : State) : State :=
  let s := s.mapChannel ch (ChannelRec.counted bad)
  match (s.channel ch).state with
  | .settling => if !bad || first then settleStep ch s else s
  | .valid =>
    if (s.channel ch).degraded = 8 then changeChannelState ch .suspect (s.mapChannel ch ChannelRec.countsCleared) else s
  | .suspect =>
    if (s.channel ch).good = 4 then changeChannelState ch .valid (s.mapChannel ch ChannelRec.countsCleared) else s
  | .off => s
  | .stale => s
  | .lost => s

/-- Step 5 of R7: the hand-on (R24, R25). -/
def handOn (ch : Channel) (c : Cycle) (s : State) : State :=
  if (s.channel ch).state.live && !(s.kindOf ch).isField then blockArrival ch c s else fieldOutput ch s

/-! ### A matched input (R7 to R10, R16, R17) -/

/-- An accepted input restarts the channel's timers and sets its last cycle number; the stale timer runs in VALID and
SUSPECT only. -/
def acceptInput (ch : Channel) (c : Cycle) (s : State) : State :=
  let stale := s.fullStale
  let lost := s.fullLost ch
  s.mapChannel ch (fun r =>
    { r with lastCycle := some c, lostTimer := lost, staleTimer := if r.state.live then stale else r.staleTimer })

/-- Steps 2 to 5 of R7 on an accepted input. -/
def processInput (ch : Channel) (first : Bool) (missing : Nat) (c : Cycle) (samples : List Int) (s : State) : State :=
  let bad := samples.any sampleInvalid
  handOn ch c (countStep ch first bad (stageScale ch (stageFilter ch first (stageMean ch samples (gapCycles ch missing s)))))

/-- A STALE channel returns to VALID (R16). -/
def staleReturn (ch : Channel) (s : State) : State :=
  let full := s.fullStale
  if (s.channel ch).state = .stale then
    changeChannelState ch .valid (s.mapChannel ch (fun r => { r.countsCleared with staleTimer := full }))
  else s

/-- A matched input of a channel that is in service and not LOST, by its judgement (R8). -/
def judgedInput (ch : Channel) (c : Cycle) (samples : List Int) (s : State) : State :=
  match judgeCycle (s.channel ch).lastCycle c with
  | .firstBlock => processInput ch true 0 c samples (acceptInput ch c s)
  | .accepted missing => processInput ch false missing c samples (acceptInput ch c (staleReturn ch s))
  | .old => report .input .oldBlock (subjectOf ch.val) s
  | .sequenceBreak =>
    processInput ch true 0 c samples
      (acceptInput ch c (settleAgain ch (report .input .sequenceBreak (subjectOf ch.val) s)))

/-- A matched input (R7). In LOST every input reseeds (R17); a channel that is OFF is matched by nothing (R6). -/
def takeInput (ch : Channel) (c : Cycle) (samples : List Int) (s : State) : State :=
  match (s.channel ch).state with
  | .off => s
  | .lost => processInput ch true 0 c samples (acceptInput ch c (settleAgain ch s))
  | .valid => judgedInput ch c samples s
  | .settling => judgedInput ch c samples s
  | .suspect => judgedInput ch c samples s
  | .stale => judgedInput ch c samples s

/-! ### A cycle block (R5, R6) -/

/-- The body holds a sensor ID, a cycle number and 1..8 inputs, and nothing else (R5). -/
def blockWellFormed (body : List Byte) : Bool :=
  5 ≤ body.length ∧ 1 ≤ u8 body 4 ∧ u8 body 4 ≤ 8 ∧ body.length = 5 + 65 * u8 body 4

/-- The input number of input `i` (R183). -/
def inputNumber (body : List Byte) (i : Nat) : Nat := u8 body (5 + 65 * i)

/-- The 32 samples of input `i`, in time order (R183). -/
def inputSamples (body : List Byte) (i : Nat) : List Int := (List.range 32).map (fun k => s16 body (6 + 65 * i + 2 * k))

/-- The in-service channel whose entry holds the pair of a nonzero sensor ID and an input number (R6). -/
def matchInput (s : State) (sensor input : Nat) : Option Channel :=
  if sensor = 0 then none
  else (List.finRange 40).find? (fun c =>
    (s.channelEntry c).sensorId == sensor && (s.channelEntry c).input == input && (s.channel c).state ≠ .off)

/-- One input of a well-formed block: taken by the channel it matches, or ignored (R6). -/
def takeBlockInput (body : List Byte) (s : State) (i : Nat) : State :=
  match matchInput s (u16 body 0) (inputNumber body i) with
  | none => s
  | some ch => takeInput ch (BitVec.ofNat 16 (u16 body 2)) (inputSamples body i) s

/-- The examination of a cycle block: its inputs one at a time, in their order (R5). While the restore is pending no
block is examined. -/
def examineBlock (body : List Byte) (s : State) : State :=
  if s.phase = .running then
    if blockWellFormed body then (List.range (u8 body 4)).foldl (takeBlockInput body) s
    else report .input .malformedBlock noSubject s
  else s

/-! ### Timer expiries (R15, R17) -/

/-- The stale timer's expiry; a stopped timer cannot expire (R15). -/
def staleExpires (ch : Channel) (s : State) : State :=
  if (s.channel ch).staleTimer.isSome then
    changeChannelState ch .stale (s.mapChannel ch (fun r => { r.countsCleared with staleTimer := none }))
  else s

/-- The lost timer's expiry; a stopped timer cannot expire (R17). -/
def lostExpires (ch : Channel) (s : State) : State :=
  if (s.channel ch).lostTimer.isSome then
    changeChannelState ch .lost
      (report .input .channelLost (subjectOf ch.val)
        (clearSecond ch
          (s.mapChannel ch (fun r =>
            { r.countsCleared with staleTimer := none, lostTimer := none, output := 0, clipped := false }))))
  else s

/-! ### Service (R11, R12, R27) -/

/-- Placing a channel that is OFF in service at its write completion (R11). -/
def placeChannel (ch : Channel) (s : State) : State :=
  let lost := s.fullLost ch
  settleAgain ch (s.mapChannel ch (fun r => { r with lostTimer := lost }))

/-- Removing a channel from service at its write completion (R12). -/
def removeChannel (ch : Channel) (s : State) : State :=
  changeChannelState ch .off
    ((clearSecond ch s).mapChannel ch (fun r => { ChannelRec.off with state := r.state }))

/-- A channel at the restore-completion event, without notices (R27). -/
def takeUpChannel (s : State) (ch : Channel) : State :=
  if (s.channelEntry ch).inService then
    s.setChannel ch
      { ChannelRec.off.reseeded (s.channelEntry ch).shift with state := .settling, lostTimer := s.fullLost ch }
  else s

end Sys2Proof.Machine
end

