-- ==== Sys2Proof/Machine/Operands.lean ====
section
/-! DEFINITION. The replies that carry a live record or the state of a block: READ STATE (section 11.4), READ CAPTURE
and the status frame, and the tests that the write rules make across entries (R2, R31). -/

namespace Sys2Proof.Machine

/-- A slot set as slot bits, bit 0 for slot 1 (R186). -/
def SlotSet.bits (w : SlotSet) : Nat := w[0].toNat + 2 * w[1].toNat + 4 * w[2].toNat + 8 * w[3].toNat

/-- A timer field in milliseconds, 0xFFFF when stopped (R186). -/
def timerMsBytes : Option Nat → List Byte
  | some left => be16 (ticksToMs left)
  | none => be16 0xFFFF

/-- The per-second fields of a FIELD channel, 11 bytes (R186). -/
def secondBytes (f : FieldSecond) : List Byte :=
  signed32 f.sum ++ be8 f.count ++ optSigned16 f.latestMean ++ optSigned16 f.previousMean ++ optSigned16 f.latestRate

/-- A READ STATE reply for a channel: 20 bytes, and 11 more for a FIELD channel (R186). -/
def channelStateBytes (kind : ChannelKind) (r : ChannelRec) : List Byte :=
  be8 r.state.rank ++ signed32 r.y ++ signed16 r.mean ++ optCycle r.lastCycle ++ signed16 r.output ++ flagByte r.clipped
    ++ be8 r.degraded ++ be8 r.good ++ be8 r.settle ++ timerMsBytes r.staleTimer ++ timerMsBytes r.lostTimer
    ++ (if kind.isField then secondBytes r.second else [])

/-- A READ STATE reply for a transformer, 31 bytes (R186). -/
def xfStateBytes (r : XfRec) : List Byte :=
  flagByte r.inService ++ be8 r.quality.code ++ be8 r.waitSet.bits ++ optCycle r.pendingCycle ++ be8 r.marked.bits
    ++ optCycle r.lastCompleted ++ signed16 r.current ++ be16 r.magnitude ++ be8 r.levels.condition.num
    ++ be8 r.levels.rise ++ be8 r.levels.runFloor.num ++ be16 r.levels.fall ++ be8 r.levels.runCeiling.num
    ++ be8 r.reported.num ++ flagByte r.unack ++ be32 r.secondSum ++ be8 r.secondCount ++ be16 r.theta
    ++ be8 r.thermal.num ++ be8 r.levels.setUsed.code

/-- An axis rate and its channel; 0x8000 and 0xFF when absent (R186). -/
def axisBytes : Option (Int × Channel) → List Byte
  | some (r, c) => signed16 r ++ be8 c.val
  | none => be16 0x8000 ++ be8 0xFF

/-- The latest R, 0xFFFF when absent (R184). -/
def normBytes : Option Nat → List Byte
  | some r => be16 r
  | none => be16 0xFFFF

/-- The hold timer left in whole seconds, 0xFFFF when stopped (R186). -/
def holdBytes : Option Nat → List Byte
  | some left => be16 (ticksToSeconds left)
  | none => be16 0xFFFF

/-- A READ STATE reply for the station, 14 bytes (R110, R186). -/
def stationStateBytes (r : StationRec) : List Byte :=
  be8 r.state.rank ++ axisBytes r.xRate ++ axisBytes r.yRate ++ normBytes r.latestNorm ++ be8 r.watchRun
    ++ holdBytes r.holdTimer ++ be8 r.alertCount ++ flagByte r.quorumMet

/-- A READ CAPTURE reply (R134, R186). -/
def captureReplyBytes (r : Recorder) (start : Word32) (n : Nat) : List Byte :=
  be8 (r.readCase start).code ++ be32 r.run.toNat ++ be32 (r.effectiveStart start).toNat
    ++ be32 (r.effectiveStart start + BitVec.ofNat 32 (r.returnCount start n)).toNat ++ be32 (r.lostCount start)
    ++ flagByte r.overrun ++ be8 (r.returnCount start n)
    ++ (r.recordsFrom (r.effectiveStart start) (r.returnCount start n)).flatMap captureBytes

/-- One transformer's 5 bytes of a status frame body (R186). -/
def statusXfBytes (r : XfRec) : List Byte :=
  be8 (r.inService.toNat + 2 * r.reported.num + 8 * r.quality.code + 32 * r.unack.toNat) ++ signed16 r.current
    ++ be16 r.theta

/-- The flags byte of a status frame body (R186). -/
def State.statusFlags (s : State) : Nat :=
  s.queue.eligible.toNat + 2 * s.recorder.nearlyFull.toNat + 4 * s.recorder.overrun.toNat + 8 * s.anyBankValid.toNat

/-- The status frame body, 89 bytes (R162, R186). -/
def State.statusBody (s : State) : List Byte :=
  be32 s.clock.uptime.toNat ++ be8 s.station.state.rank ++ normBytes s.station.latestNorm ++ be8 s.station.alertCount
    ++ be8 s.statusFlags ++ (List.finRange 16).flatMap (fun t => statusXfBytes s.xfs[t])

/-- The status frame as it stands now (R160). -/
def State.statusFrame (s : State) : List Byte := frameBytes kindStatus broadcast s.stationAddress s.statusBody

/-! ### The write rules across entries -/

/-- Another channel entry holds the same nonzero sensor ID and the same input number (R2, R3). -/
def sourcePairTaken (s : State) (c : Channel) (e : ChannelEntry) : Bool :=
  e.sensorId ≠ 0 ∧
    (List.finRange 40).any (fun o =>
      o ≠ c ∧ (s.channelEntry o).sensorId = e.sensorId ∧ (s.channelEntry o).input = e.input)

/-- A channel is named by a used slot of some transformer entry. -/
def isMember (s : State) (c : Channel) : Bool :=
  (List.finRange 16).any (fun t => ((s.xfEntry t).slotOf c).isSome)

/-- The write rules of R2 after the range tests: the detail of the first that fails. R2 gives the two tests no order;
the source pair goes first as R2 lists it first, so that a write that fails both carries detail 2 (DESIGN CHOICE, log
entry 27). -/
def channelRuleFault (s : State) (c : Channel) (e : ChannelEntry) : Option Nat :=
  firstFault [(2, !sourcePairTaken s c e), (1, !(e.kind ≠ s.kindOf c && isMember s c))]

/-- A channel is named by a slot of the entry before slot `i`. -/
def namedEarlier (e : XfEntry) (i : Slot) (c : Channel) : Bool :=
  (List.finRange 4).any (fun j => j < i ∧ e.slots[j].channel = some c)

/-- A channel is a member of a transformer entry other than `t`'s. -/
def memberElsewhere (s : State) (t : Xf) (c : Channel) : Bool :=
  (List.finRange 16).any (fun o => o ≠ t ∧ ((s.xfEntry o).slotOf c).isSome)

/-- The three membership tests on slot `i` (R31). An empty slot is not tested. -/
def slotRuleOk (s : State) (t : Xf) (e : XfEntry) (i : Slot) : Bool :=
  match e.slots[i].channel with
  | none => true
  | some c => s.kindOf c == .neutral && !namedEarlier e i c && !memberElsewhere s t c

/-- The membership tests of R31, slots 1 to 4 in order: the failing slot's channel field number. -/
def xfRuleFault (s : State) (t : Xf) (e : XfEntry) : Option Nat :=
  firstFault [(1, slotRuleOk s t e 0), (3, slotRuleOk s t e 1), (5, slotRuleOk s t e 2), (7, slotRuleOk s t e 3)]

/-- The entry names at least one member (R47). -/
def XfEntry.hasMember (e : XfEntry) : Bool := (List.finRange 4).any (fun i => e.slots[i].channel.isSome)

end Sys2Proof.Machine
end

