-- ==== Sys2Proof/Machine/Events.lean ====
section
/-! DEFINITION. What comes about at the part by itself (chapters 5 and 9): the placing of a frame, the transmit
completions, the status timer and the uptime second; and the events that come inside a request for all (R68, R148).
What a request does to the part is left to the operations that take it: `placeFrame` and `portBCompletes` are given it. -/

namespace Sys2Proof.Machine

/-! ### Frames (R152 to R157) -/

/-- A good frame is placed in the forward queue away from its port, or dropped for a full queue (R154, R156). A free
transmitter starts a frame at once (R157, R164). -/
def forwardFrame (port : Port) (source : Byte) (bytes : List Byte) (s : State) : State :=
  match port with
  | .a =>
    if s.frames.aToB.length < Config.aToBCapacity then
      arbiter (s.setFrames { s.frames with aToB := s.frames.aToB ++ [bytes] })
    else report .linkA .forwardOverflow source s
  | .b =>
    if s.frames.bToA.length < Config.bToACapacity then
      portA (s.setFrames { s.frames with bToA := s.frames.bToA ++ [bytes] })
    else report .linkB .forwardOverflow source s

/-- A REQUEST addressed to the part (R154): misdirected at port A, taken by `request` at port B. -/
def requestArrival (request : GoodFrame → State → State) (port : Port) (f : GoodFrame) (s : State) : State :=
  match port with
  | .a => report .linkA .misdirectedRequest f.source s
  | .b => request f s

/-- A good frame is placed by its destination, its kind and its port (R154); a cycle block is examined first (R155). -/
def placeFrame (request : GoodFrame → State → State) (port : Port) (bytes : List Byte) (f : GoodFrame) (s : State) :
    State :=
  if f.dest = s.stationAddress then
    if f.kind = kindCycleBlock then examineBlock f.body s
    else if f.kind = kindRequest then requestArrival request port f s
    else s
  else if f.kind = kindCycleBlock then forwardFrame port f.source bytes (examineBlock f.body s)
  else forwardFrame port f.source bytes s

/-- A transmission ends at a port (R152): checked, then placed, or dropped with a report (R153). With the bypass closed
the receivers are disconnected (R165). -/
def transmissionEnds (request : GoodFrame → State → State) (port : Port) (bytes : List Byte) (s : State) : State :=
  if s.bypassClosed then s
  else
    match checkFrame bytes with
    | .error code => report (linkBank port) code noSubject s
    | .ok f => placeFrame request port bytes f s

/-- A request that meets an occupied response slot is discarded (R158). -/
def overrunRequest (source : Byte) (s : State) : State := report .linkB .requestOverrun source s

/-! ### Transmit completions (R157, R164) -/

/-- Port A's transmit completion: the transmitter is free and starts the oldest frame of the B→A queue (R157). A
transmitter that sends nothing completes nothing. -/
def portACompletes (s : State) : State :=
  if s.frames.txA.isSome then portA (s.setFrames { s.frames with txA := none }) else s

/-- Port B's transmit completion: the transmitter is free, and the arbiter decides the next frame (R164); a response's
completion goes on with `sent`. A transmitter that sends nothing completes nothing. -/
def portBCompletes (sent : State → State) (s : State) : State :=
  match s.frames.txB with
  | none => s
  | some (.response, _) => sent (s.setFrames { s.frames with txB := none })
  | some (.forward, _) => arbiter (s.setFrames { s.frames with txB := none })
  | some (.status, _) => arbiter (s.setFrames { s.frames with txB := none })

/-! ### Status timer and uptime second (R160 to R162) -/

/-- A status frame is built and enters the status slot; an unsent frame there is superseded (R160, R162). -/
def buildStatus (s : State) : State :=
  if s.frames.status.isSome then
    report .output .statusSuperseded noSubject (s.setFrames (s.frames.putStatus s.statusFrame))
  else s.setFrames (s.frames.putStatus s.statusFrame)

/-- The status timer's expiry: a status frame is built, once in each uptime second that began as a nonzero multiple of
the status interval (R161; log entry 28). In any other second, a second time in one, and while the uptime counter is
stopped, the timer does not expire. -/
def statusExpires (s : State) : State :=
  if s.phase = .running ∧ s.clock.statusDue then
    arbiter (buildStatus { s with clock := { s.clock with statusDue := false } })
  else s

/-- A whole uptime second ends: the counter advances by 1, the second that begins is one of the status timer's or not,
and every timer, timed by the same oscillator, has run the rest of the one that ends (R161; log entry 4). While the
restore is pending, and with the bypass closed, nothing is counted. -/
def countUptimeSecond (s : State) : State :=
  if s.phase = .running then
    { runTimers (Config.ticksPerSecond - s.clock.subTick) s with
      clock := { uptime := s.clock.uptime + 1, subTick := 0, statusDue := s.statusSecond (s.clock.uptime + 1) } }
  else s

/-! ### The events inside a request for all (R68, R148; log entry 13) -/

/-- One event, taken while a request holds the response slot: a further request is an overrun, and the response that
the slot awaits is not yet on the line. -/
def takeEvent (e : PartEvent) (s : State) : State :=
  match e with
  | .frameArrival port bytes => transmissionEnds (fun f => overrunRequest f.source) port bytes s
  | .portATransmitCompletion => portACompletes s
  | .portBTransmitCompletion => portBCompletes arbiter s
  | .staleTimerExpiry c => staleExpires c s
  | .lostTimerExpiry c => lostExpires c s
  | .holdTimerExpiry => holdExpires s
  | .statusTimerExpiry => statusExpires s
  | .uptimeSecondCount => countUptimeSecond s

/-- The events that come before part `n` of a request for all, in their order: those after part `n - 1`. -/
def takeBetween (events : List Interposed) (n : Nat) (s : State) : State :=
  (events.filter (fun e => e.after + 1 == n)).foldl (fun s e => takeEvent e.event s) s

/-- The state in which a request for all begins its walk: it takes the events inside it for its own. -/
def State.beginWalk (s : State) : State := { s with inside := [] }

end Sys2Proof.Machine
end

