-- ==== Sys2Proof/Machine/Requests.lean ====
section
/-! DEFINITION. The request handler (chapter 10): request intake, the response, and the meaning of every request row.
Each `serve…` function makes the checks of R168 that follow NOT READY and UNKNOWN REQUEST, in their order, and carries
the request out. -/

namespace Sys2Proof.Machine

/-! ### The response (R159, R167, R184) -/

/-- The RESPONSE frame to a request: the echoed code and tag (0 for a byte the body lacks), result, detail, data. -/
def responseFrame (station : Byte) (rq : Request) (result : Result) (detail : Nat) (data : List Byte) : List Byte :=
  frameBytes kindResponse rq.source station
    ([rq.body.getD 0 0, rq.body.getD 1 0] ++ be8 result.code ++ be8 detail ++ data)

/-- The request handler composes the response. -/
def respond (rq : Request) (result : Result) (detail : Nat) (data : List Byte) (s : State) : State :=
  s.setFrames (s.frames.putResponse (responseFrame s.stationAddress rq result detail data))

/-- A refusal carries no data (R167). -/
def refuse (rq : Request) (result : Result) (detail : Nat) (s : State) : State := respond rq result detail [] s

/-- The DONE response. -/
def respondDone (rq : Request) (data : List Byte) (s : State) : State := respond rq .done 0 data s

/-- An accepted write begins its store write; the slot stays PENDING (R177). -/
def beginWrite (w : StoreWrite) (s : State) : State := s.setWrite (some w)

/-! ### Request intake (R158) -/

/-- The request handler takes a request: NOT READY while the restore is pending (R168), else its own handling. -/
def takeRequest (rq : Request) (serve : Request → State → State) (s : State) : State :=
  if s.phase = .restoring then refuse rq .notReady 0 s else serve rq s

/-- The response slot holds the request in hand. -/
def holdRequest (rq : Request) (s : State) : State := s.setFrames { s.frames with response := .pending rq }

/-- A good REQUEST addressed to the part arrives at port B: taken in FREE, discarded with REQUEST OVERRUN otherwise
(R158). The arbiter decides once the request has been handled (R163, R164). With the bypass closed nothing arrives. -/
def intake (source : Byte) (body : List Byte) (serve : Request → State → State) (s : State) : State :=
  if s.bypassClosed then s
  else
    match s.frames.response with
    | .free => arbiter (takeRequest ⟨source, body⟩ serve (holdRequest ⟨source, body⟩ s))
    | .pending _ => overrunRequest source s
    | .ready _ => overrunRequest source s
    | .sending => overrunRequest source s

/-! ### Reads (R169) -/

/-- READ SETUP. -/
def serveReadSetup (rq : Request) (s : State) : State :=
  if rq.body.length ≠ 2 then refuse rq .badLength 0 s else respondDone rq (setupImageBytes s.setup) s

/-- READ CHANNEL. -/
def serveReadChannel (rq : Request) (s : State) : State :=
  if rq.body.length ≠ 3 then refuse rq .badLength 0 s
  else
    match channelOfIndex (u8 rq.body 2) with
    | none => refuse rq .badIndex 1 s
    | some c => respondDone rq (channelImageBytes (s.channelEntry c)) s

/-- READ TRANSFORMER. -/
def serveReadTransformer (rq : Request) (s : State) : State :=
  if rq.body.length ≠ 3 then refuse rq .badLength 0 s
  else
    match xfOfIndex (u8 rq.body 2) with
    | none => refuse rq .badIndex 1 s
    | some t => respondDone rq (xfImageBytes (s.xfEntry t)) s

/-- READ STATE: subjects channel 1, transformer 2, station 3 (R184). -/
def serveReadState (rq : Request) (s : State) : State :=
  if rq.body.length ≠ 4 then refuse rq .badLength 0 s
  else if u8 rq.body 2 = 1 then
    match channelOfIndex (u8 rq.body 3) with
    | none => refuse rq .badIndex 2 s
    | some c => respondDone rq (channelStateBytes (s.kindOf c) (s.channel c)) s
  else if u8 rq.body 2 = 2 then
    match xfOfIndex (u8 rq.body 3) with
    | none => refuse rq .badIndex 2 s
    | some t => respondDone rq (xfStateBytes (s.xf t)) s
  else if u8 rq.body 2 = 3 then
    if u8 rq.body 3 = 0 then respondDone rq (stationStateBytes s.station) s else refuse rq .badIndex 2 s
  else refuse rq .badIndex 1 s

/-! ### Writes (R171, R173, R174, R176) -/

/-- WRITE SETUP (R171). -/
def serveWriteSetup (rq : Request) (s : State) : State :=
  if rq.body.length ≠ 12 then refuse rq .badLength 0 s
  else if s.setup.guardSpan.guardsSetup then refuse rq .guarded 0 s
  else if u8 (rq.body.drop 2) 0 ≠ s.setup.freq ∧ s.anyChannelInService then refuse rq .inService 0 s
  else
    match setupFieldFault (rq.body.drop 2) with
    | some n => refuse rq .badValue n s
    | none => beginWrite (.setup (setupOfFields (rq.body.drop 2) s.setup.guardSpan s.setup.lockFlag)) s

/-- WRITE CHANNEL past its BAD INDEX check (R2, R173). -/
def writeChannelEntry (rq : Request) (c : Channel) (s : State) : State :=
  if s.setup.guardSpan.guardsChannel c then refuse rq .guarded 0 s
  else if (s.channel c).state ≠ .off then refuse rq .inService 0 s
  else
    match channelFieldFault (rq.body.drop 3) with
    | some n => refuse rq .badValue n s
    | none =>
      match channelRuleFault s c (channelOfFields (rq.body.drop 3) false) with
      | some n => refuse rq .badValue n s
      | none => beginWrite (.channelEntry c (channelOfFields (rq.body.drop 3) false)) s

/-- WRITE CHANNEL. -/
def serveWriteChannel (rq : Request) (s : State) : State :=
  if rq.body.length ≠ 15 then refuse rq .badLength 0 s
  else
    match channelOfIndex (u8 rq.body 2) with
    | none => refuse rq .badIndex 1 s
    | some c => writeChannelEntry rq c s

/-- WRITE TRANSFORMER past its BAD INDEX check (R30, R31, R173). -/
def writeXfEntry (rq : Request) (t : Xf) (s : State) : State :=
  if s.setup.guardSpan.guardsXf t then refuse rq .guarded 0 s
  else if (s.xf t).inService then refuse rq .inService 0 s
  else
    match xfFieldFault (rq.body.drop 3) with
    | some n => refuse rq .badValue n s
    | none =>
      match xfRuleFault s t (xfOfFields (rq.body.drop 3) false) with
      | some n => refuse rq .badValue n s
      | none => beginWrite (.xfEntry t (xfOfFields (rq.body.drop 3) false)) s

/-- WRITE TRANSFORMER. -/
def serveWriteTransformer (rq : Request) (s : State) : State :=
  if rq.body.length ≠ 38 then refuse rq .badLength 0 s
  else
    match xfOfIndex (u8 rq.body 2) with
    | none => refuse rq .badIndex 1 s
    | some t => writeXfEntry rq t s

/-- SET SERVICE for a channel, direction `d` (R11, R12, R174). -/
def serviceChannel (rq : Request) (c : Channel) (d : Nat) (s : State) : State :=
  if s.setup.guardSpan.guardsChannel c then refuse rq .guarded 0 s
  else if 1 < d then refuse rq .badValue 3 s
  else if d = 1 ∧ (s.channelEntry c).sensorId = 0 then refuse rq .badValue 2 s
  else if (d == 1) = ((s.channel c).state != .off) then respondDone rq [] s
  else beginWrite (.channelService c { s.channelEntry c with inService := d == 1 }) s

/-- SET SERVICE for a transformer, direction `d` (R47, R48, R174). -/
def serviceXf (rq : Request) (t : Xf) (d : Nat) (s : State) : State :=
  if s.setup.guardSpan.guardsXf t then refuse rq .guarded 0 s
  else if 1 < d then refuse rq .badValue 3 s
  else if d = 1 ∧ (s.xfEntry t).hasMember = false then refuse rq .badValue 1 s
  else if (d == 1) = (s.xf t).inService then respondDone rq [] s
  else beginWrite (.xfService t { s.xfEntry t with inService := d == 1 }) s

/-- SET SERVICE (R174). -/
def serveSetService (rq : Request) (s : State) : State :=
  if rq.body.length ≠ 5 then refuse rq .badLength 0 s
  else if u8 rq.body 2 = 1 then
    match channelOfIndex (u8 rq.body 3) with
    | none => refuse rq .badIndex 2 s
    | some c => serviceChannel rq c (u8 rq.body 4) s
  else if u8 rq.body 2 = 2 then
    match xfOfIndex (u8 rq.body 3) with
    | none => refuse rq .badIndex 2 s
    | some t => serviceXf rq t (u8 rq.body 4) s
  else refuse rq .badIndex 1 s

/-- SET GUARD (R176). `lock` is the level of the LOCK line. -/
def serveSetGuard (lock : Bool) (rq : Request) (s : State) : State :=
  if rq.body.length ≠ 4 then refuse rq .badLength 0 s
  else if s.setup.lockFlag && lock then refuse rq .locked 0 s
  else if 3 < u8 rq.body 2 then refuse rq .badValue 1 s
  else if 1 < u8 rq.body 3 then refuse rq .badValue 2 s
  else
    beginWrite
      (.guardSpan { s.setup with guardSpan := GuardSpan.ofCode (u8 rq.body 2), lockFlag := u8 rq.body 3 == 1 }) s

/-! ### Acknowledgement (R67 to R69) -/

/-- The turn of transformer `t` in a request for all: the events that come before it, then its acknowledgement. -/
def acknowledgeTurn (events : List Interposed) (p : State × Nat) (t : Xf) : State × Nat :=
  acknowledgeStep (takeBetween events t.val p.1, p.2) t

/-- ACKNOWLEDGE for all: the transformers in index order, with the number of flags cleared (R68; log entry 13). -/
def acknowledgeAll (s : State) : State × Nat :=
  (List.finRange 16).foldl (acknowledgeTurn s.inside) (s.beginWalk, 0)

/-- ACKNOWLEDGE, for one transformer or, with the index 0xFF, for all. -/
def serveAcknowledge (rq : Request) (s : State) : State :=
  if rq.body.length ≠ 3 then refuse rq .badLength 0 s
  else if u8 rq.body 2 = 0xFF then
    respondDone rq (be8 (acknowledgeAll s).2) (acknowledgeAll s).1
  else
    match xfOfIndex (u8 rq.body 2) with
    | none => refuse rq .badIndex 1 s
    | some t => respondDone rq (be8 (acknowledgeStep (s, 0) t).2) (acknowledgeStep (s, 0) t).1

/-! ### Event queue, capture recorder, banks (R119 to R123, R132 to R135, R145 to R147) -/

/-- READ EVENTS: the selected records leave the queue and stand in the response (R120, R121). -/
def serveReadEvents (rq : Request) (s : State) : State :=
  if rq.body.length ≠ 3 then refuse rq .badLength 0 s
  else if u8 rq.body 2 = 0 ∨ 8 < u8 rq.body 2 then refuse rq .badValue 1 s
  else
    let q := s.queue
    let (taken, left) := selectEvents q.reportFloor (u8 rq.body 2) q.records
    let eligible := countAtOrAbove q.reportFloor left
    respondDone rq
      (be8 taken.length ++ be8 eligible ++ be8 (left.length - eligible) ++ taken.flatMap eventBytes)
      (s.setQueue { q with records := left })

/-- SET FLOOR (R123). -/
def serveSetFloor (rq : Request) (s : State) : State :=
  if rq.body.length ≠ 3 then refuse rq .badLength 0 s
  else if 3 < u8 rq.body 2 then refuse rq .badValue 1 s
  else
    respondDone rq (be8 s.queue.reportFloor ++ be8 (countAtOrAbove (u8 rq.body 2) s.queue.records))
      (s.setQueue { s.queue with reportFloor := u8 rq.body 2 })

/-- READ CAPTURE (R132 to R135). -/
def serveReadCapture (rq : Request) (s : State) : State :=
  if rq.body.length ≠ 7 then refuse rq .badLength 0 s
  else if u8 rq.body 6 = 0 ∨ 16 < u8 rq.body 6 then refuse rq .badValue 2 s
  else
    let start : Word32 := BitVec.ofNat 32 (u32 rq.body 2)
    respondDone rq (captureReplyBytes s.recorder start (u8 rq.body 6)) (s.setRecorder (s.recorder.afterRead start))

/-- The banks that an index names: one for 0..6, all seven for 0xFF, none otherwise (R145). -/
def banksNamed (n : Nat) : Option (List BankId) :=
  if n = 0xFF then some BankId.inOrder else (BankId.inOrder[n]?).map (fun b => [b])

/-- READ BANK (R145). The reply's data is the records alone, with no count byte before them: so section 8.3 and the table
of section 11.2 have it (one or seven records of 10 bytes), while R186's last sentence counts READ BANK among the replies
whose length is fixed by count bytes that precede the records (DESIGN CHOICE, log entry 29). -/
def serveReadBank (rq : Request) (s : State) : State :=
  if rq.body.length ≠ 3 then refuse rq .badLength 0 s
  else
    match banksNamed (u8 rq.body 2) with
    | none => refuse rq .badIndex 1 s
    | some bs => respondDone rq (bs.flatMap (fun b => bankBytes b (s.bank b))) s

/-- A VALID bank is emptied, with its FAULT change; an empty one is unchanged (R147). -/
def clearOne (s : State) (b : BankId) : State := if (s.bank b).valid then replaceBank b BankRec.empty s else s

/-- The clear of bank `b`, with the count of banks emptied so far (R147). -/
def clearStep (p : State × Nat) (b : BankId) : State × Nat :=
  (clearOne p.1 b, if (p.1.bank b).valid then p.2 + 1 else p.2)

/-- The turn of bank `b` in a request for all: the events that come before it, then its clear (R148). -/
def clearTurn (events : List Interposed) (p : State × Nat) (b : BankId) : State × Nat :=
  clearStep (takeBetween events b.index.val p.1, p.2) b

/-- CLEAR BANK for all: the banks in bank order, with the number emptied (R147, R148). -/
def clearAll (s : State) : State × Nat :=
  BankId.inOrder.foldl (clearTurn s.inside) (s.beginWalk, 0)

/-- CLEAR BANK, for one bank or, with the index 0xFF, for all (R147). -/
def serveClearBank (rq : Request) (s : State) : State :=
  if rq.body.length ≠ 3 then refuse rq .badLength 0 s
  else if u8 rq.body 2 = 0xFF then respondDone rq (be8 (clearAll s).2) (clearAll s).1
  else
    match BankId.inOrder[u8 rq.body 2]? with
    | none => refuse rq .badIndex 1 s
    | some b => respondDone rq (be8 (clearStep (s, 0) b).2) (clearStep (s, 0) b).1

/-! ### SEND STATUS and RESTART (R160, R163, R181) -/

/-- SEND STATUS (R163). -/
def serveSendStatus (rq : Request) (s : State) : State :=
  if rq.body.length ≠ 2 then refuse rq .badLength 0 s else respondDone rq [] (buildStatus s)

/-- RESTART: DONE at once; the warm restart begins at that response's transmit completion (R181). -/
def serveRestart (rq : Request) (s : State) : State :=
  if rq.body.length ≠ 2 then refuse rq .badLength 0 s else respondDone rq [] { s with restartArmed := true }

/-! ### By code (R168, R184) -/

/-- The handling of a request by its code. A body of fewer than two bytes is refused with BAD LENGTH, and a code that
names no request with UNKNOWN REQUEST (R168). -/
def serveByCode (lock : Bool) (rq : Request) (s : State) : State :=
  if rq.body.length < 2 then refuse rq .badLength 0 s
  else
    match u8 rq.body 0 with
    | 0x01 => serveReadSetup rq s
    | 0x02 => serveWriteSetup rq s
    | 0x03 => serveReadChannel rq s
    | 0x04 => serveWriteChannel rq s
    | 0x05 => serveReadTransformer rq s
    | 0x06 => serveWriteTransformer rq s
    | 0x07 => serveSetService rq s
    | 0x08 => serveAcknowledge rq s
    | 0x09 => serveReadState rq s
    | 0x0A => serveReadEvents rq s
    | 0x0B => serveSetFloor rq s
    | 0x0C => serveReadCapture rq s
    | 0x0D => serveReadBank rq s
    | 0x0E => serveClearBank rq s
    | 0x0F => serveSetGuard lock rq s
    | 0x10 => serveSendStatus rq s
    | 0x11 => serveRestart rq s
    | _ => refuse rq .unknownRequest 0 s

/-! ### The request rows -/

/-- The body of a request: its code, its tag and its parameters (R184). -/
def requestBody (code tag : Byte) (params : List Byte) : List Byte := code :: tag :: params

def execReadSetup (source tag : Byte) (params : List Byte) (s : State) : Host.Outcome State Fault Refusal :=
  .next (intake source (requestBody 0x01 tag params) serveReadSetup s)

def execWriteSetup (source tag : Byte) (params : List Byte) (s : State) : Host.Outcome State Fault Refusal :=
  .next (intake source (requestBody 0x02 tag params) serveWriteSetup s)

def execReadChannel (source tag : Byte) (params : List Byte) (s : State) : Host.Outcome State Fault Refusal :=
  .next (intake source (requestBody 0x03 tag params) serveReadChannel s)

def execWriteChannel (source tag : Byte) (params : List Byte) (s : State) : Host.Outcome State Fault Refusal :=
  .next (intake source (requestBody 0x04 tag params) serveWriteChannel s)

def execReadTransformer (source tag : Byte) (params : List Byte) (s : State) : Host.Outcome State Fault Refusal :=
  .next (intake source (requestBody 0x05 tag params) serveReadTransformer s)

def execWriteTransformer (source tag : Byte) (params : List Byte) (s : State) : Host.Outcome State Fault Refusal :=
  .next (intake source (requestBody 0x06 tag params) serveWriteTransformer s)

def execSetService (source tag : Byte) (params : List Byte) (s : State) : Host.Outcome State Fault Refusal :=
  .next (intake source (requestBody 0x07 tag params) serveSetService s)

def execAcknowledge (source tag : Byte) (params : List Byte) (s : State) : Host.Outcome State Fault Refusal :=
  .next (intake source (requestBody 0x08 tag params) serveAcknowledge s)

/-- ACKNOWLEDGE with the index 0xFF (R68). -/
def execAcknowledgeAll (source tag : Byte) (s : State) : Host.Outcome State Fault Refusal :=
  .next (intake source (requestBody 0x08 tag [0xFF]) serveAcknowledge s)

def execReadState (source tag : Byte) (params : List Byte) (s : State) : Host.Outcome State Fault Refusal :=
  .next (intake source (requestBody 0x09 tag params) serveReadState s)

def execReadEvents (source tag : Byte) (params : List Byte) (s : State) : Host.Outcome State Fault Refusal :=
  .next (intake source (requestBody 0x0A tag params) serveReadEvents s)

def execSetFloor (source tag : Byte) (params : List Byte) (s : State) : Host.Outcome State Fault Refusal :=
  .next (intake source (requestBody 0x0B tag params) serveSetFloor s)

def execReadCapture (source tag : Byte) (params : List Byte) (s : State) : Host.Outcome State Fault Refusal :=
  .next (intake source (requestBody 0x0C tag params) serveReadCapture s)

def execReadBank (source tag : Byte) (params : List Byte) (s : State) : Host.Outcome State Fault Refusal :=
  .next (intake source (requestBody 0x0D tag params) serveReadBank s)

def execClearBank (source tag : Byte) (params : List Byte) (s : State) : Host.Outcome State Fault Refusal :=
  .next (intake source (requestBody 0x0E tag params) serveClearBank s)

def execSetGuard (source tag : Byte) (params : List Byte) (lock : Bool) (s : State) :
    Host.Outcome State Fault Refusal :=
  .next (intake source (requestBody 0x0F tag params) (serveSetGuard lock) s)

def execSendStatus (source tag : Byte) (params : List Byte) (s : State) : Host.Outcome State Fault Refusal :=
  .next (intake source (requestBody 0x10 tag params) serveSendStatus s)

def execRestart (source tag : Byte) (params : List Byte) (s : State) : Host.Outcome State Fault Refusal :=
  .next (intake source (requestBody 0x11 tag params) serveRestart s)

end Sys2Proof.Machine
end

