-- ==== Sys2Proof/Machine/Frames.lean ====
section
/-! DEFINITION. The rows of the frame handler (chapter 9): the arrival of a frame at a port, port A's transmit
completion, and the status timer's expiry. Their work stands in Machine/Events.lean. -/

namespace Sys2Proof.Machine

/-- A REQUEST to the part that port B brings is taken by request intake (R154, R158). -/
def takeRequestFrame (lock : Bool) (f : GoodFrame) (s : State) : State :=
  intake f.source f.body (serveByCode lock) s

/-- FRAME ARRIVAL (R152). -/
def execFrameArrival (port : Port) (bytes : List Byte) (lock : Bool) (s : State) : Host.Outcome State Fault Refusal :=
  .next (transmissionEnds (takeRequestFrame lock) port bytes s)

/-- PORT A TRANSMIT COMPLETION (R157). -/
def execPortATransmitCompletion (s : State) : Host.Outcome State Fault Refusal := .next (portACompletes s)

/-- STATUS TIMER EXPIRY (R161). -/
def execStatusTimerExpiry (s : State) : Host.Outcome State Fault Refusal := .next (statusExpires s)

end Sys2Proof.Machine
end

