-- ==== Sys2Proof/Machine/Starts.lean ====
section
/-! DEFINITION. The table store's write completion (R177), the starts and the ends of the part's working state: the
restore, cold start, warm restart, RESET and power loss (sections 10.5 and 10.6, R165, R166), and port B's transmit
completion, which begins the warm restart. -/

namespace Sys2Proof.Machine

/-! ### Store writes (R172 to R178) -/

/-- The image that a write replaces becomes `i`. -/
def StoreWrite.replaceImage (w : StoreWrite) (i : Image) (st : Store) : Store :=
  match w with
  | .setup _ => { st with setup := i }
  | .guardSpan _ => { st with setup := i }
  | .channelEntry c _ => { st with channels := st.channels.set c i }
  | .channelService c _ => { st with channels := st.channels.set c i }
  | .xfEntry t _ => { st with xfs := st.xfs.set t i }
  | .xfService t _ => { st with xfs := st.xfs.set t i }

/-- The image that a write stores, with its new check word (R177). -/
def StoreWrite.image : StoreWrite → Image
  | .setup e => sealImage (setupImageBytes e)
  | .guardSpan e => sealImage (setupImageBytes e)
  | .channelEntry _ e => sealImage (channelImageBytes e)
  | .channelService _ e => sealImage (channelImageBytes e)
  | .xfEntry _ e => sealImage (xfImageBytes e)
  | .xfService _ e => sealImage (xfImageBytes e)

/-- The store's write ends: the image is replaced and no write is in progress. -/
def finishWrite (w : StoreWrite) (s : State) : State :=
  { s with store := w.replaceImage w.image s.store, write := none }

/-- The live copy takes the new values and the owner acts on them: fields 1 to 7 of a setup write (R172), the fields of
an entry write (R173), the in-service field of a service change (R174), the span and the lock flag of a SET GUARD
(R176). -/
def takeWritten (w : StoreWrite) (s : State) : State :=
  match w with
  | .setup e => formQuorum (s.setSetup { e with guardSpan := s.setup.guardSpan, lockFlag := s.setup.lockFlag })
  | .guardSpan e => s.setSetup { s.setup with guardSpan := e.guardSpan, lockFlag := e.lockFlag }
  | .channelEntry c e => s.setChannelEntry c e
  | .xfEntry t e => zeroIdleThermal t (rebuildMemberMap (s.setXfEntry t e))
  | .channelService c e =>
    if e.inService then placeChannel c (s.setChannelEntry c { s.channelEntry c with inService := true })
    else removeChannel c (s.setChannelEntry c { s.channelEntry c with inService := false })
  | .xfService t e =>
    if e.inService then placeXf t (s.setXfEntry t { s.xfEntry t with inService := true })
    else removeXf t (s.setXfEntry t { s.xfEntry t with inService := false })

/-- The data of the DONE response: SET GUARD's carries the span and lock flag now in force (R176). -/
def writtenData (w : StoreWrite) (s : State) : List Byte :=
  match w with
  | .guardSpan _ => be8 s.setup.guardSpan.code ++ flagByte s.setup.lockFlag
  | .setup _ => []
  | .channelEntry _ _ => []
  | .xfEntry _ _ => []
  | .channelService _ _ => []
  | .xfService _ _ => []

/-- The response to the request whose write has completed. -/
def answerWrite (w : StoreWrite) (s : State) : State :=
  match s.frames.response with
  | .pending rq => arbiter (respondDone rq (writtenData w s) s)
  | .free => s
  | .ready _ => s
  | .sending => s

/-- The write-completion event (R177). With no write in progress it does not come. -/
def writeCompletes (s : State) : State :=
  match s.write with
  | none => s
  | some w => answerWrite w (takeWritten w (finishWrite w s))

/-- STORE WRITE COMPLETION (R177). -/
def execStoreWriteCompletion (s : State) : Host.Outcome State Fault Refusal := .next (writeCompletes s)

/-- A write in progress is torn: its image fails its check word from then on (R178). -/
def tearWrite (s : State) : State :=
  match s.write with
  | none => s
  | some w => { s with store := w.replaceImage .torn s.store, write := none }

/-! ### The restore (R179) -/

/-- The setup image is checked and taken, or the factory default with its report. -/
def restoreSetup (s : State) : State :=
  match setupOfImage s.store.setup with
  | some e => s.setSetup e
  | none => report .table .setupCheckFail noSubject (s.setSetup Setup.factory)

/-- Transformer image `t` is checked and taken, or the factory default with its report, subject 40 + t. -/
def restoreXf (s : State) (t : Xf) : State :=
  match xfOfImage s.store.xfs[t] with
  | some e => s.setXfEntry t e
  | none => report .table .entryCheckFail (subjectOf (40 + t.val)) (s.setXfEntry t XfEntry.factory)

/-- Channel image `c` is checked and taken, or the factory default with its report. -/
def restoreChannel (s : State) (c : Channel) : State :=
  match channelOfImage s.store.channels[c] with
  | some e => s.setChannelEntry c e
  | none => report .table .entryCheckFail (subjectOf c.val) (s.setChannelEntry c ChannelEntry.factory)

/-- The restore's reading: setup, transformer entries 0..15, channel entries 0..39, in this order. -/
def restoreTables (s : State) : State :=
  (List.finRange 40).foldl restoreChannel ((List.finRange 16).foldl restoreXf (restoreSetup s))

/-- The restore-completion event, in the order of R180. It comes only while a restore is pending. -/
def restoreCompletes (s : State) : State :=
  if s.phase = .restoring then
    let s := { s with phase := .running, clock := Clock.initial }
    let s := rebuildMemberMap ((List.finRange 40).foldl takeUpChannel s)
    stationTakeUp ((List.finRange 16).foldl (fun s t => takeUpXf t s) s)
  else s

/-- RESTORE COMPLETION (R180). -/
def execRestoreCompletion (s : State) : Host.Outcome State Fault Refusal := .next (restoreCompletes s)

/-! ### The ends and the starts (R165, R166, R181, R182, R187) -/

/-- All working state discarded (R165): every block at its values from a bypass opening, with the store, the model's
own count of short spells and what waits outside kept. -/
def discardWorking (phase : Phase) (s : State) : State :=
  { State.reset with phase := phase, stationAddress := s.stationAddress, store := s.store, shortSpells := s.shortSpells,
                     inside := s.inside, pending := s.pending }

/-- The part is held in reset, with any store write torn (R178, R187). An unpowered part stays unpowered. -/
def holdInReset (s : State) : State :=
  match s.phase with
  | .powerAbsent => s
  | .heldInReset => s
  | .restoring => discardWorking .heldInReset (tearWrite s)
  | .running => discardWorking .heldInReset (tearWrite s)

/-- A RESET spell: one of 10 µs or more is taken; a shorter one is taken or missed, and the free value says which
(R187). -/
def resetSpell (spell : ResetSpell) (s : State) : State :=
  match spell with
  | .full => holdInReset s
  | .short =>
    let taken := Config.shortSpellTaken s.shortSpells
    let s := { s with shortSpells := s.shortSpells + 1 }
    if taken then holdInReset s else s

/-- RESET ASSERTED (R187). -/
def execResetAsserted (spell : ResetSpell) (s : State) : Host.Outcome State Fault Refusal := .next (resetSpell spell s)

/-- POWER LOSS (R165, R178). -/
def execPowerLoss (s : State) : Host.Outcome State Fault Refusal := .next (discardWorking .powerAbsent (tearWrite s))

/-- The station address of a strap setting (R187). -/
def addressOfStraps (straps : BitVec 6) : Byte := 0x80 + straps.setWidth 8

/-- A cold start from the bypass opening: the straps are sampled, every block takes its cold-start values and the
restore begins (R165, R179). A write still in progress is torn by the interruption that the start presupposes. -/
def coldStart (straps : BitVec 6) (s : State) : State :=
  restoreTables { discardWorking .restoring (tearWrite s) with stationAddress := addressOfStraps straps }

/-- COLD START (R165). -/
def execColdStart (straps : BitVec 6) (s : State) : Host.Outcome State Fault Refusal := .next (coldStart straps s)

/-- The warm-restart values of every block (R28, R52, R77, R89, R109, R126, R138, R151, R166), before the restore: Θ
and T, the banks, the station address and the frame that port A is sending are kept. -/
def warmValues (s : State) : State :=
  { s with
    phase := .restoring
    channels := Vector.replicate 40 ChannelRec.off
    xfs := tabulate (fun t => XfRec.offWith (s.xfs[t]).theta (s.xfs[t]).thermal)
    memberMap := Vector.replicate 40 none
    station := StationRec.initial
    alarmOut := false
    stormOut := false
    queue := EventQueue.initial
    recorder := Recorder.initial
    frames := { FrameHandler.initial with txA := s.frames.txA }
    clock := Clock.initial
    restartArmed := false }

/-- The warm restart (R181). -/
def warmRestart (s : State) : State := restoreTables (warmValues s)

/-- The response has left port B: the slot is FREE, and the warm restart begins if the response was RESTART's (R159). -/
def responseSent (s : State) : State :=
  if s.restartArmed then warmRestart s else arbiter (s.setFrames { s.frames with response := .free })

/-- PORT B TRANSMIT COMPLETION (R164). -/
def execPortBTransmitCompletion (s : State) : Host.Outcome State Fault Refusal := .next (portBCompletes responseSent s)

end Sys2Proof.Machine
end

