-- ==== Sys2Proof/Machine/Timers.lean ====
section
/-! DEFINITION. What the part's own oscillator brings: the expiries of the channel timers and of the hold timer, the
count of an uptime second, and the tick of an idle part. -/

namespace Sys2Proof.Machine

/-- STALE TIMER EXPIRY (R15). -/
def execStaleTimerExpiry (c : Channel) (s : State) : Host.Outcome State Fault Refusal := .next (staleExpires c s)

/-- LOST TIMER EXPIRY (R17). -/
def execLostTimerExpiry (c : Channel) (s : State) : Host.Outcome State Fault Refusal := .next (lostExpires c s)

/-- HOLD TIMER EXPIRY (R103). -/
def execHoldTimerExpiry (s : State) : Host.Outcome State Fault Refusal := .next (holdExpires s)

/-- UPTIME SECOND COUNT (R161). -/
def execUptimeSecondCount (s : State) : Host.Outcome State Fault Refusal := .next (countUptimeSecond s)

/-! ### An idle part (log entry 3) -/

/-- One tick of the oscillator while nothing waits: every timer runs one tick. -/
def tick (s : State) : State :=
  { runTimers 1 s with clock := { s.clock with subTick := s.clock.subTick + 1 } }

/-- The expiries that are due, in the order of log entry 15: each timer that has run out, the end of the uptime second,
and the status timer in a second of its own. -/
def dueCommands (s : State) : List Instr :=
  ((List.finRange 40).filter (fun c => (s.channels[c]).staleTimer == some 0)).map .staleTimerExpiry
    ++ ((List.finRange 40).filter (fun c => (s.channels[c]).lostTimer == some 0)).map .lostTimerExpiry
    ++ (if s.station.holdTimer = some 0 then [.holdTimerExpiry] else [])
    ++ (if Config.ticksPerSecond ≤ s.clock.subTick then [.uptimeSecondCount] else [])
    ++ (if s.clock.statusDue then [.statusTimerExpiry] else [])

/-- An idle part: while it runs, the first expiry that is due comes into the queue, so that what it stops or restarts is
due no more when the next is looked for; with none due one tick passes. A part that does not run stands still. -/
def idle (s : State) : State :=
  if s.phase = .running then
    match dueCommands s with
    | [] => tick s
    | i :: _ => { s with pending := s.pending ++ [i] }
  else s

end Sys2Proof.Machine
end

