-- ==== Sys2Proof/Machine/Dispatch.lean ====
section
/-! DEFINITION. The dispatch of each command to its meaning. -/

namespace Sys2Proof.Machine

def exec (i : Instr) (s : State) : Host.Outcome State Fault Refusal :=
  match i with
  | .frameArrival port bytes lock => Sys2Proof.Machine.execFrameArrival port bytes lock s
  | .portATransmitCompletion => Sys2Proof.Machine.execPortATransmitCompletion s
  | .portBTransmitCompletion => Sys2Proof.Machine.execPortBTransmitCompletion s
  | .staleTimerExpiry c => Sys2Proof.Machine.execStaleTimerExpiry c s
  | .lostTimerExpiry c => Sys2Proof.Machine.execLostTimerExpiry c s
  | .holdTimerExpiry => Sys2Proof.Machine.execHoldTimerExpiry s
  | .statusTimerExpiry => Sys2Proof.Machine.execStatusTimerExpiry s
  | .storeWriteCompletion => Sys2Proof.Machine.execStoreWriteCompletion s
  | .restoreCompletion => Sys2Proof.Machine.execRestoreCompletion s
  | .resetAsserted spell => Sys2Proof.Machine.execResetAsserted spell s
  | .powerLoss => Sys2Proof.Machine.execPowerLoss s
  | .coldStart straps => Sys2Proof.Machine.execColdStart straps s
  | .readSetup source tag params => Sys2Proof.Machine.execReadSetup source tag params s
  | .writeSetup source tag params => Sys2Proof.Machine.execWriteSetup source tag params s
  | .readChannel source tag params => Sys2Proof.Machine.execReadChannel source tag params s
  | .writeChannel source tag params => Sys2Proof.Machine.execWriteChannel source tag params s
  | .readTransformer source tag params => Sys2Proof.Machine.execReadTransformer source tag params s
  | .writeTransformer source tag params => Sys2Proof.Machine.execWriteTransformer source tag params s
  | .setService source tag params => Sys2Proof.Machine.execSetService source tag params s
  | .acknowledge source tag params => Sys2Proof.Machine.execAcknowledge source tag params s
  | .acknowledgeAll source tag => Sys2Proof.Machine.execAcknowledgeAll source tag s
  | .readState source tag params => Sys2Proof.Machine.execReadState source tag params s
  | .readEvents source tag params => Sys2Proof.Machine.execReadEvents source tag params s
  | .setFloor source tag params => Sys2Proof.Machine.execSetFloor source tag params s
  | .readCapture source tag params => Sys2Proof.Machine.execReadCapture source tag params s
  | .readBank source tag params => Sys2Proof.Machine.execReadBank source tag params s
  | .clearBank source tag params => Sys2Proof.Machine.execClearBank source tag params s
  | .setGuard source tag params lock => Sys2Proof.Machine.execSetGuard source tag params lock s
  | .sendStatus source tag params => Sys2Proof.Machine.execSendStatus source tag params s
  | .restart source tag params => Sys2Proof.Machine.execRestart source tag params s
  | .uptimeSecondCount => Sys2Proof.Machine.execUptimeSecondCount s

end Sys2Proof.Machine
end

