-- ==== Sys2Proof/Safety.lean ====
section
/-! DEFINITION. What a sound state of the part is, block by block, and the words in which the claims speak of a command:
the request that a request row carries, the state with an answer composed, and the state that waits for a store write. -/

namespace Sys2Proof.Machine

/-! ### Event queue (R111 to R116) -/

/-- A change that the queue gives a priority of 1 to 3 (R112, R114). -/
def changeAllowed (key : EventKey) (fromRank toRank : Nat) : Prop :=
  1 ≤ changePriority key fromRank toRank ∧ changePriority key fromRank toRank ≤ 3

/-- One event record: the changes field in 1..255, the priority in 1..3, and a peak that neither the from nor the to
outranks (R112, R113). -/
def EventRec.Law (r : EventRec) : Prop :=
  1 ≤ r.changes ∧ r.changes ≤ 255 ∧ 1 ≤ r.priority ∧ r.priority ≤ 3 ∧ r.fromRank ≤ r.peak ∧ r.toRank ≤ r.peak

/-- The event queue: no two records share a key, each record is sound, and the floor is in 0..3 (R111, R118). -/
def EventQueue.Law (q : EventQueue) : Prop :=
  (q.records.map EventRec.key).Nodup ∧ (∀ r ∈ q.records, r.Law) ∧ q.reportFloor ≤ 3

/-! ### Error banks (chapter 8) -/

/-- The codes that each bank takes (section 8.5). -/
def BankId.takes (b : BankId) (code : ErrorCode) : Bool :=
  match b with
  | .linkA =>
    code == .crcFail || code == .badLength || code == .oversize || code == .forwardOverflow
      || code == .misdirectedRequest
  | .linkB =>
    code == .crcFail || code == .badLength || code == .oversize || code == .forwardOverflow || code == .requestOverrun
  | .input =>
    code == .malformedBlock || code == .oldBlock || code == .sequenceBreak || code == .invalidSamples
      || code == .clipped || code == .channelLost
  | .assembly => code == .lateMember || code == .lateBlock || code == .noData
  | .compute => code == .channelClamp || code == .transformerClamp || code == .thermalClamp || code == .rateClamp
  | .table => code == .entryCheckFail || code == .setupCheckFail
  | .output => code == .statusSuperseded

/-- One bank record: empty while VALID is clear; else a code of its bank, UNCORRECTED as that code's class, a count in
1..65535, and OVERFLOW exactly from the second report on (R140 to R142). -/
def BankRec.Law (b : BankId) (r : BankRec) : Prop :=
  (r.valid = false → r = BankRec.empty) ∧
  (r.valid = true →
    (∃ code, r.code = some code ∧ b.takes code = true ∧ (r.uncorrected = true ↔ code.errorClass = .uncorrected)) ∧
    1 ≤ r.count ∧ r.count ≤ 65535 ∧ (r.overflow = true ↔ 2 ≤ r.count))

/-- Every bank is sound. -/
def State.BanksLaw (s : State) : Prop := ∀ b, (s.bank b).Law b

/-! ### Output lines (R70, R107) -/

/-- ALARM OUT is asserted exactly when an in-service transformer has its flag set, STORM OUT exactly in STORM. -/
def State.OutputsLaw (s : State) : Prop :=
  (s.alarmOut = true ↔ ∃ t : Xf, (s.xf t).inService = true ∧ (s.xf t).unack = true) ∧
  (s.stormOut = true ↔ s.station.state = .storm)

/-! ### Frame handler (chapter 9) -/

/-- Port B is sending the response. -/
def FrameHandler.sendsResponse (f : FrameHandler) : Bool :=
  match f.txB with
  | some (.response, _) => true
  | some (.forward, _) => false
  | some (.status, _) => false
  | none => false

/-- The response slot is PENDING. -/
def ResponseSlot.isPending : ResponseSlot → Bool
  | .pending _ => true
  | .free => false
  | .ready _ => false
  | .sending => false

/-- The queues keep their capacities and the forward run its range; a free transmitter leaves nothing waiting; the slot
is SENDING exactly while port B sends the response (R156 to R164). -/
def FrameHandler.Law (f : FrameHandler) : Prop :=
  f.aToB.length ≤ 8 ∧ f.bToA.length ≤ 4 ∧ f.forwardRun ≤ 8 ∧
  (f.txA = none → f.bToA = []) ∧
  (f.txB = none → f.aToB = [] ∧ f.ownWaiting = false) ∧
  (f.response = .sending ↔ f.sendsResponse = true)

/-- The slots and what waits on them: the response slot is PENDING exactly while a store write is in progress (R159,
R177), and a RESTART is armed only while a response waits or is sent (R181). -/
def State.SlotLaw (s : State) : Prop :=
  s.frames.Law ∧ (s.write.isSome = true ↔ s.frames.response.isPending = true) ∧
  (s.restartArmed = true → s.frames.response = .sending ∨ ∃ frame, s.frames.response = .ready frame)

/-! ### Channel timers (section 1.5) -/

/-- The stale timer runs exactly in VALID and SUSPECT; the lost timer runs exactly in SETTLING, VALID, SUSPECT and
STALE. -/
def State.ChannelTimersLaw (s : State) : Prop :=
  ∀ c : Channel,
    ((s.channel c).staleTimer.isSome = true ↔ (s.channel c).state = .valid ∨ (s.channel c).state = .suspect) ∧
    ((s.channel c).lostTimer.isSome = true ↔ (s.channel c).state ≠ .off ∧ (s.channel c).state ≠ .lost)

/-! ### Service (R30, R47, R48, R51, R174) -/

/-- What a store write in progress supposes of its transformer: an entry write, that it is OFF; a service change, that
it is in the other service state. -/
def StoreWrite.Supposes (s : State) : StoreWrite → Prop
  | .setup _ => True
  | .guardSpan _ => True
  | .channelEntry _ _ => True
  | .channelService _ _ => True
  | .xfEntry t _ => (s.xf t).inService = false
  | .xfService t e => (s.xf t).inService = !e.inService

/-- Until the part runs every transformer is OFF and no write is in progress; a write in progress finds its transformer
as it was when the write was accepted. -/
def State.ServiceLaw (s : State) : Prop :=
  (s.phase ≠ .running → s.write = none ∧ ∀ t : Xf, (s.xf t).inService = false) ∧
  (∀ w, s.write = some w → w.Supposes s)

/-! ### Station (R97, R103, R104) -/

/-- The alert count is the number of in-service transformers at ALERT or ALARM; quorum met is formed from it and holds
the station in STORM; the hold timer runs exactly in WATCH, and in STORM while the quorum is not met; the watch run is
nonzero in CALM alone. -/
def State.StationLaw (s : State) : Prop :=
  s.station.alertCount = s.countedXfs ∧
  s.station.quorumMet = quorumCondition s.setup.quorum s.station.alertCount ∧
  (s.station.quorumMet = true → s.station.state = .storm) ∧
  (s.station.holdTimer.isSome = true ↔
    s.station.state = .watch ∨ (s.station.state = .storm ∧ s.station.quorumMet = false)) ∧
  s.station.watchRun ≤ 2 ∧ (s.station.watchRun ≠ 0 → s.station.state = .calm)

/-! ### Transformer levels and thermal estimate (R63, R64, R80, R84) -/

/-- An in-service transformer's flag is set only at ALARM, and its reported level differs from the larger of L and T only
while the latch is on and the flag is set (R64). -/
def State.LevelLaw (s : State) : Prop :=
  ∀ t : Xf, (s.xf t).inService = true →
    ((s.xf t).unack = true → (s.xf t).reported = .alarm) ∧
    ((s.xf t).reported ≠ Level.higher (s.xf t).levels.condition (s.xf t).thermal →
      (s.xfEntry t).latch = true ∧ (s.xf t).unack = true)

/-- Θ lies in 0..65535, T is never WATCH, and while the part runs both are 0 where the thermal coefficient is 0 (R80,
R84). -/
def State.ThermalLaw (s : State) : Prop :=
  ∀ t : Xf, (s.xf t).theta ≤ 65535 ∧ (s.xf t).thermal ≠ .watch ∧
    (s.phase = .running → (s.xfEntry t).coefficient = 0 → (s.xf t).theta = 0 ∧ (s.xf t).thermal = .quiet)

/-- The rise and fall runs (R57): an OFF transformer has none. In service each count stands below its persistence setting
(where that is at least 1, as R54 has it), at most one count is nonzero, the run floor is above L and the run ceiling
below it while their counts are nonzero, and each is 0 while its count is. -/
def State.RunLaw (s : State) : Prop :=
  ∀ t : Xf,
    let r := (s.xf t).levels
    ((s.xf t).inService = false → r = LevelRec.initial) ∧
    (1 ≤ (s.xfEntry t).risePersistence → r.rise < (s.xfEntry t).risePersistence) ∧
    (1 ≤ (s.xfEntry t).fallPersistence → r.fall < (s.xfEntry t).fallPersistence) ∧
    (r.rise = 0 ∨ r.fall = 0) ∧
    (r.rise ≠ 0 → r.condition.num < r.runFloor.num) ∧ (r.rise = 0 → r.runFloor = .quiet) ∧
    (r.fall ≠ 0 → r.runCeiling.num < r.condition.num) ∧ (r.fall = 0 → r.runCeiling = .quiet)

/-! ### Capture recorder (R128 to R131) -/

/-- While OVERRUN is clear the run index is at most 512 past the held read index; before the ring has filled the run
index is below 512; and each of the readable records stands in its slot. -/
def Recorder.Law (r : Recorder) : Prop :=
  (r.overrun = false → indexDistance r.run r.held ≤ 512) ∧ (r.filled = false → r.run.toNat < 512) ∧
  (∀ i : Nat, 1 ≤ i → i ≤ r.readable → (r.ring[ringSlot (r.run - BitVec.ofNat 32 i)]).isSome = true)

/-! ### An idle part -/

/-- The expiries that are due: that of a timer that has run out, the end of an uptime second whose time is over, and the
status timer's at a second of its own. -/
def State.Due (s : State) : Instr → Prop
  | .staleTimerExpiry c => (s.channel c).staleTimer = some 0
  | .lostTimerExpiry c => (s.channel c).lostTimer = some 0
  | .holdTimerExpiry => s.station.holdTimer = some 0
  | .uptimeSecondCount => 3000 ≤ s.clock.subTick
  | .statusTimerExpiry => s.clock.statusDue = true
  | _ => False

/-! ### Requests -/

/-- The source address and the body that a request row carries; none for a row that is no request. -/
def requestOf : Instr → Option Request
  | .frameArrival _ _ _ => none
  | .portATransmitCompletion => none
  | .portBTransmitCompletion => none
  | .staleTimerExpiry _ => none
  | .lostTimerExpiry _ => none
  | .holdTimerExpiry => none
  | .statusTimerExpiry => none
  | .storeWriteCompletion => none
  | .restoreCompletion => none
  | .resetAsserted _ => none
  | .powerLoss => none
  | .coldStart _ => none
  | .readSetup source tag p => some ⟨source, requestBody 0x01 tag p⟩
  | .writeSetup source tag p => some ⟨source, requestBody 0x02 tag p⟩
  | .readChannel source tag p => some ⟨source, requestBody 0x03 tag p⟩
  | .writeChannel source tag p => some ⟨source, requestBody 0x04 tag p⟩
  | .readTransformer source tag p => some ⟨source, requestBody 0x05 tag p⟩
  | .writeTransformer source tag p => some ⟨source, requestBody 0x06 tag p⟩
  | .setService source tag p => some ⟨source, requestBody 0x07 tag p⟩
  | .acknowledge source tag p => some ⟨source, requestBody 0x08 tag p⟩
  | .acknowledgeAll source tag => some ⟨source, requestBody 0x08 tag [0xFF]⟩
  | .readState source tag p => some ⟨source, requestBody 0x09 tag p⟩
  | .readEvents source tag p => some ⟨source, requestBody 0x0A tag p⟩
  | .setFloor source tag p => some ⟨source, requestBody 0x0B tag p⟩
  | .readCapture source tag p => some ⟨source, requestBody 0x0C tag p⟩
  | .readBank source tag p => some ⟨source, requestBody 0x0D tag p⟩
  | .clearBank source tag p => some ⟨source, requestBody 0x0E tag p⟩
  | .setGuard source tag p _ => some ⟨source, requestBody 0x0F tag p⟩
  | .sendStatus source tag p => some ⟨source, requestBody 0x10 tag p⟩
  | .restart source tag p => some ⟨source, requestBody 0x11 tag p⟩
  | .uptimeSecondCount => none

/-- The level of LOCK that a command carries: released where it carries none. -/
def lockOf : Instr → Bool
  | .setGuard _ _ _ lock => lock
  | _ => false

/-- The body length that a request code demands (section 11.2); none for a code that names no request. -/
def bodyLength : Nat → Option Nat
  | 0x01 => some 2 | 0x02 => some 12 | 0x03 => some 3 | 0x04 => some 15 | 0x05 => some 3 | 0x06 => some 38
  | 0x07 => some 5 | 0x08 => some 3 | 0x09 => some 4 | 0x0A => some 3 | 0x0B => some 3 | 0x0C => some 7
  | 0x0D => some 3 | 0x0E => some 3 | 0x0F => some 4 | 0x10 => some 2 | 0x11 => some 2
  | _ => none

/-- The part runs and no request is in hand: the next request is taken and checked past NOT READY (R158, R168). -/
def State.Serving (s : State) : Prop := s.phase = .running ∧ s.frames.response = .free

/-- `s` with the response to `rq` composed: the slot READY with it and the arbiter's decision made (R159, R164). -/
def State.answered (s : State) (rq : Request) (result : Result) (detail : Nat) (data : List Byte) : State :=
  arbiter
    { s with frames :=
      { s.frames with
        response := .ready (responseFrame s.stationAddress rq result detail data)
        forwardRun := if s.frames.status.isSome then s.frames.forwardRun else 0 } }

/-- `s` with the request `rq` taken and its store write begun: the slot PENDING, the arbiter's decision made (R159,
R177). -/
def State.awaiting (s : State) (rq : Request) (w : StoreWrite) : State :=
  arbiter { s with frames := { s.frames with response := .pending rq }, write := some w }

/-- A used slot of a written entry that a membership test of R31 refuses. -/
def State.SlotRefused (s : State) (x : Xf) (e : XfEntry) (j : Slot) : Prop :=
  ∃ c : Channel, e.slots[j].channel = some c ∧
    ((s.channelEntry c).kind ≠ .neutral ∨ (∃ k : Slot, k < j ∧ e.slots[k].channel = some c) ∨
      ∃ (o : Xf) (k : Slot), o ≠ x ∧ (s.xfEntry o).slots[k].channel = some c)

/-! ### Store images (R185) -/

/-- The ranges of a setup record's fields (R96, R170). -/
def Setup.InRange (e : Setup) : Prop :=
  (e.freq = 50 ∨ e.freq = 60) ∧ (1 ≤ e.statusInterval ∧ e.statusInterval ≤ 60) ∧ e.captureLevel ≤ 4 ∧
  (1 ≤ e.watchRate ∧ e.watchRate < e.stormRate ∧ e.stormRate ≤ 65535) ∧ (60 ≤ e.holdTime ∧ e.holdTime ≤ 7200) ∧
  e.quorum ≤ 16

/-- The ranges of a channel entry's fields (R1). -/
def ChannelEntry.InRange (e : ChannelEntry) : Prop :=
  e.sensorId ≤ 65535 ∧ e.input ≤ 15 ∧ (1 ≤ e.gain ∧ e.gain ≤ 65535) ∧ (-32767 ≤ e.offset ∧ e.offset ≤ 32767) ∧
  e.shift ≤ 7 ∧ (10 ≤ e.lostLimit ∧ e.lostLimit ≤ 3000)

/-- The range of a member slot: a used slot's weight is −8..−1 or 1..8, an empty slot's is 0 (R29). -/
def MemberSlot.InRange (m : MemberSlot) : Prop :=
  -8 ≤ m.weight ∧ m.weight ≤ 8 ∧ (m.channel = none ↔ m.weight = 0)

/-- The ranges of a threshold set (R53). -/
def ThresholdSet.InRange (t : ThresholdSet) : Prop :=
  1 ≤ t.p1 ∧ t.p1 < t.p2 ∧ t.p2 < t.p3 ∧ t.p3 ≤ 5000 ∧ t.h < t.p1

/-- The ranges of a transformer entry's fields (R29, R53, R54, R79). -/
def XfEntry.InRange (e : XfEntry) : Prop :=
  (∀ i : Slot, (e.slots[i]).InRange) ∧ e.normal.InRange ∧ e.storm.InRange ∧
  (1 ≤ e.risePersistence ∧ e.risePersistence ≤ 255) ∧ (1 ≤ e.fallPersistence ∧ e.fallPersistence ≤ 3000) ∧
  e.coefficient ≤ 4095 ∧ e.shift ≤ 12 ∧ (200 ≤ e.alertLimit ∧ e.alertLimit < e.alarmLimit ∧ e.alarmLimit ≤ 65535)

/-! ### What a command leaves -/

/-- What the work of the blocks never touches: the tables, the frame handler, the store, the clock and the rest. -/
def State.SameAround (s t : State) : Prop :=
  t.phase = s.phase ∧ t.stationAddress = s.stationAddress ∧ t.setup = s.setup ∧
  t.channelEntries = s.channelEntries ∧ t.xfEntries = s.xfEntries ∧ t.memberMap = s.memberMap ∧
  t.frames = s.frames ∧ t.clock = s.clock ∧ t.restartArmed = s.restartArmed ∧ t.write = s.write ∧
  t.store = s.store ∧ t.shortSpells = s.shortSpells ∧ t.inside = s.inside ∧ t.pending = s.pending

/-- What a store write's completion never touches. -/
def State.SameBeside (s t : State) : Prop :=
  t.phase = s.phase ∧ t.stationAddress = s.stationAddress ∧ t.frames = s.frames ∧ t.clock = s.clock ∧
  t.restartArmed = s.restartArmed ∧ t.shortSpells = s.shortSpells ∧ t.inside = s.inside ∧ t.pending = s.pending

/-! ### Cycle blocks of one input -/

/-- Channel `c` alone holds the pair of a sensor ID and an input number, and is in service (R3, R6). -/
def State.Matches (s : State) (c : Channel) (sensor input : Nat) : Prop :=
  sensor ≠ 0 ∧ (s.channelEntry c).sensorId = sensor ∧ (s.channelEntry c).input = input ∧ (s.channel c).state ≠ .off ∧
  ∀ o : Channel, o ≠ c → ¬((s.channelEntry o).sensorId = sensor ∧ (s.channelEntry o).input = input)

/-- A cycle block of one input, well formed, for channel `c` (R5, R6). -/
def State.BlockFor (s : State) (c : Channel) (body : List Byte) : Prop :=
  s.phase = .running ∧ body.length = 70 ∧ u8 body 4 = 1 ∧ s.Matches c (u16 body 0) (inputNumber body 0)

/-- The cycle number of a block's body (R183). -/
def blockCycle (body : List Byte) : Cycle := BitVec.ofNat 16 (u16 body 2)

/-! ### Evaluations in a row (R59, R60) -/

/-- The level record after a run of evaluations, each of a magnitude against the storm set (true) or the normal set. -/
def evaluateRun (e : XfEntry) (es : List (Bool × Nat)) : LevelRec :=
  es.foldl (fun r x => evaluateLevels e x.1 x.2 r) LevelRec.initial

/-! ### Port B with frames arriving all the while (R164) -/

/-- Port B completes a frame and the arbiter decides, the A→B queue holding `waiting` by then. -/
def FrameHandler.completeB (f : FrameHandler) (waiting : List (List Byte)) : FrameHandler :=
  ({ f with txB := none, aToB := waiting }).arbitrate

/-! ### Restore (R179) -/

/-- The number of images that a restore of this store finds failed. -/
def Store.failures (st : Store) : Nat :=
  (if (setupOfImage st.setup).isNone then 1 else 0)
    + (List.finRange 16).countP (fun t => (xfOfImage st.xfs[t]).isNone)
    + (List.finRange 40).countP (fun c => (channelOfImage st.channels[c]).isNone)

/-- The report of the first image that a restore of this store finds failed: the setup record, then transformers 0..15
with 40 plus the index as subject, then channels 0..39 with the index (R179). -/
def Store.FirstFailure (st : Store) (code : ErrorCode) (subject : Nat) : Prop :=
  (setupOfImage st.setup = none ∧ code = .setupCheckFail ∧ subject = 255) ∨
  (setupOfImage st.setup ≠ none ∧ ∃ t : Xf, xfOfImage st.xfs[t] = none ∧ (∀ o : Xf, o < t → xfOfImage st.xfs[o] ≠ none) ∧
    code = .entryCheckFail ∧ subject = 40 + t.val) ∨
  (setupOfImage st.setup ≠ none ∧ (∀ t : Xf, xfOfImage st.xfs[t] ≠ none) ∧
    ∃ c : Channel, channelOfImage st.channels[c] = none ∧ (∀ o : Channel, o < c → channelOfImage st.channels[o] ≠ none) ∧
      code = .entryCheckFail ∧ subject = c.val)

/-- The live tables are those of the store, with the factory default for each image that fails (R179). -/
def State.Restored (s : State) : Prop :=
  s.setup = (setupOfImage s.store.setup).getD Setup.factory ∧
  (∀ t : Xf, s.xfEntry t = (xfOfImage s.store.xfs[t]).getD XfEntry.factory) ∧
  (∀ c : Channel, s.channelEntry c = (channelOfImage s.store.channels[c]).getD ChannelEntry.factory)

end Sys2Proof.Machine
end

