-- ==== Sys2Proof/Certificates/Slice0/Obligations.lean ====
section
/-! DEFINITION. The statements about the model, for the provers. -/

open Sys2Proof Sys2Proof.Machine

/-! ### The block and its queue of commands -/

/-- A step executes the command at the front of the queue on the state with the queue's rest. -/
def Obligations.StepTakesTheFrontCommand : Prop :=
  ∀ (c : Instr) (s : State), step { s with pending := c :: s.pending } = exec c s

/-- The model's choice (log entries 3 and 15): with nothing waiting, a running part has the first expiry that is due come
into its queue, alone, and no time passes; with none due one tick of its oscillator passes, and nothing but the timers
and the tick count changes. A part that does not run stands still. -/
def Obligations.IdleStepIsOneTick : Prop :=
  ∀ s : State, s.pending = [] →
    (s.phase ≠ .running → step s = .next s) ∧
    (s.phase = .running → (∃ i, s.Due i) → ∃ i, s.Due i ∧ step s = .next { s with pending := [i] } ∧
      (∀ c : Channel, s.Due (.staleTimerExpiry c) → ∃ d : Channel, d ≤ c ∧ i = .staleTimerExpiry d) ∧
      ((∀ c : Channel, ¬s.Due (.staleTimerExpiry c)) →
        (∀ c : Channel, s.Due (.lostTimerExpiry c) → ∃ d : Channel, d ≤ c ∧ i = .lostTimerExpiry d) ∧
        ((∀ c : Channel, ¬s.Due (.lostTimerExpiry c)) →
          (s.Due .holdTimerExpiry → i = .holdTimerExpiry) ∧
          (¬s.Due .holdTimerExpiry → s.Due .uptimeSecondCount → i = .uptimeSecondCount)))) ∧
    (s.phase = .running → (∀ i, ¬s.Due i) → ∃ channels : Vector ChannelRec 40,
      step s = .next { s with
        channels := channels
        station := { s.station with holdTimer := s.station.holdTimer.map (· - 1) }
        clock := { s.clock with subTick := s.clock.subTick + 1 } } ∧
      ∀ c : Channel, channels[c] =
        { s.channel c with staleTimer := (s.channel c).staleTimer.map (· - 1)
                           lostTimer := (s.channel c).lostTimer.map (· - 1) })

/-- What every block holds from the bypass opening of a cold start: the OFF values of R4, R33 and R57, the values of R97,
the empty queue, ring and banks, and an idle frame handler. -/
def Obligations.ResetHoldsTheStartValues : Prop :=
  State.reset.phase = .restoring ∧
  (∀ c : Channel,
    (State.reset.channel c).state = .off ∧ (State.reset.channel c).y = 0 ∧ (State.reset.channel c).mean = 0 ∧
    (State.reset.channel c).lastCycle = none ∧ (State.reset.channel c).output = 0 ∧
    (State.reset.channel c).clipped = false ∧ (State.reset.channel c).degraded = 0 ∧
    (State.reset.channel c).good = 0 ∧ (State.reset.channel c).settle = 0 ∧
    (State.reset.channel c).staleTimer = none ∧ (State.reset.channel c).lostTimer = none ∧
    (State.reset.channel c).second =
      { sum := 0, count := 0, latestMean := none, previousMean := none, latestRate := none }) ∧
  (∀ x : Xf,
    (State.reset.xf x).inService = false ∧ (State.reset.xf x).quality = .noData ∧
    (∀ j : Slot, (State.reset.xf x).waitSet[j] = false) ∧ (State.reset.xf x).pendingCycle = none ∧
    (∀ j : Slot, (State.reset.xf x).marked[j] = false) ∧ (State.reset.xf x).lastCompleted = none ∧
    (State.reset.xf x).current = 0 ∧ (State.reset.xf x).magnitude = 0 ∧
    (State.reset.xf x).levels =
      { condition := .quiet, rise := 0, runFloor := .quiet, fall := 0, runCeiling := .quiet, setUsed := .none } ∧
    (State.reset.xf x).reported = .quiet ∧ (State.reset.xf x).unack = false ∧ (State.reset.xf x).secondSum = 0 ∧
    (State.reset.xf x).secondCount = 0 ∧ (State.reset.xf x).theta = 0 ∧ (State.reset.xf x).thermal = .quiet) ∧
  State.reset.station =
    { state := .calm, xRate := none, yRate := none, latestNorm := none, watchRun := 0, holdTimer := none,
      alertCount := 0, quorumMet := false } ∧
  State.reset.alarmOut = false ∧ State.reset.stormOut = false ∧
  State.reset.queue = { records := [], reportFloor := 0 } ∧
  (∀ i : Fin 512, State.reset.recorder.ring[i] = none) ∧ State.reset.recorder.run = 0 ∧
  State.reset.recorder.held = 0 ∧ State.reset.recorder.filled = false ∧ State.reset.recorder.overrun = false ∧
  (∀ b : BankId, State.reset.bank b =
    { valid := false, uncorrected := false, overflow := false, code := none, subject := 0, second := 0, count := 0 }) ∧
  State.reset.frames =
    { aToB := [], bToA := [], txA := none, txB := none, response := .free, status := none, forwardRun := 0 } ∧
  State.reset.clock.uptime = 0 ∧ State.reset.clock.statusDue = false ∧ State.reset.write = none

/-! ### Invariants -/

/-- Every law of a sound state holds at reset. -/
def Obligations.LawsHoldAtReset : Prop :=
  State.reset.queue.Law ∧ State.reset.BanksLaw ∧ State.reset.OutputsLaw ∧ State.reset.SlotLaw ∧
  State.reset.ChannelTimersLaw ∧ State.reset.ServiceLaw ∧ State.reset.StationLaw ∧ State.reset.LevelLaw ∧
  State.reset.RunLaw ∧ State.reset.ThermalLaw ∧ State.reset.recorder.Law

/-- Every step keeps the event queue sound, and a sound queue holds at most 64 records. -/
def Obligations.EventQueueStaysSound : Prop :=
  ∀ s t : State, s.queue.Law → step s = .next t → t.queue.Law ∧ t.queue.records.length ≤ 64

/-- Every step keeps every error bank sound. -/
def Obligations.BanksStaySound : Prop :=
  ∀ s t : State, s.BanksLaw → step s = .next t → t.BanksLaw

/-- Every step keeps ALARM OUT and STORM OUT as the flags and the station state say. -/
def Obligations.OutputLinesStayTrue : Prop :=
  ∀ s t : State, s.OutputsLaw → step s = .next t → t.OutputsLaw

/-- Every step keeps the frame handler, the store write and the armed restart in step with one another. -/
def Obligations.SlotsStaySound : Prop :=
  ∀ s t : State, s.SlotLaw → step s = .next t → t.SlotLaw

/-- Every step keeps each channel's timers running in just the states that run them. -/
def Obligations.ChannelTimersStayWithTheState : Prop :=
  ∀ s t : State, s.ChannelTimersLaw → step s = .next t → t.ChannelTimersLaw

/-- Every step keeps the service states: nothing is in service before the part runs, and a write in progress finds its
transformer as it was. -/
def Obligations.ServiceStaysSound : Prop :=
  ∀ s t : State, s.SlotLaw → s.ServiceLaw → step s = .next t → t.ServiceLaw

/-- Every step keeps the alert count the number of in-service transformers at ALERT or ALARM, and the quorum, the hold
timer and the watch run with it. -/
def Obligations.StationStaysSound : Prop :=
  ∀ s t : State, s.SlotLaw → s.ServiceLaw → s.StationLaw → step s = .next t → t.StationLaw

/-- Every step keeps the unacknowledged flags at ALARM, and the reported level the larger of L and T unless the latch
holds it. -/
def Obligations.ReportedLevelsStaySound : Prop :=
  ∀ s t : State, s.SlotLaw → s.ServiceLaw → s.LevelLaw → step s = .next t → t.LevelLaw

/-- Every step keeps the rise and fall runs as R57 has them: each count below its persistence setting, at most one of the
two nonzero, the run floor above the condition level and the run ceiling below it while their counts are nonzero, and
each QUIET while its count is 0; an OFF transformer has no run. -/
def Obligations.LevelRunsStaySound : Prop :=
  ∀ s t : State, s.SlotLaw → s.ServiceLaw → s.RunLaw → step s = .next t → t.RunLaw

/-- Every step keeps the thermal estimate in range, the thermal level off WATCH, and both 0 where the coefficient is. -/
def Obligations.ThermalStateStaysSound : Prop :=
  ∀ s t : State, s.ThermalLaw → step s = .next t → t.ThermalLaw

/-- Every step keeps the capture recorder sound, and with it fill at most 512. -/
def Obligations.RecorderStaysSound : Prop :=
  ∀ s t : State, s.recorder.Law → step s = .next t → t.recorder.Law ∧ t.recorder.fill ≤ 512

/-- No command touches the commands that wait, and the events inside a request for all wait as they are until one takes
them all; the station address changes at a cold start alone; the stored images
change at a write completion and at the interruptions that tear a write; the live tables change at write completions,
at the starts and at the ends of the working state. -/
def Obligations.SettledStateChangesAtItsEventsOnly : Prop :=
  ∀ (c : Instr) (s t : State), exec c s = .next t →
    t.pending = s.pending ∧ (t.inside = s.inside ∨ t.inside = []) ∧
    ((∀ straps, c ≠ .coldStart straps) → t.stationAddress = s.stationAddress) ∧
    (c ≠ .storeWriteCompletion → c ≠ .powerLoss → (∀ straps, c ≠ .coldStart straps) →
      (∀ spell, c ≠ .resetAsserted spell) → t.store = s.store) ∧
    (c ≠ .storeWriteCompletion → c ≠ .portBTransmitCompletion → c ≠ .powerLoss →
      (∀ straps, c ≠ .coldStart straps) → (∀ spell, c ≠ .resetAsserted spell) →
      t.setup = s.setup ∧ t.channelEntries = s.channelEntries ∧ t.xfEntries = s.xfEntries)

/-! ### Requests: reads -/

/-- READ SETUP, READ CHANNEL and READ TRANSFORMER answer with the live record's image, and change nothing but the
response slot and port B. The image bytes are those of R185 less the check word, field by field, high byte first: 12 for
the setup record, 13 for a channel entry, 36 for a transformer entry, and a write carries all but the last ones. A
composed response stands READY as the RESPONSE frame to the request's source, with code, tag (0 for a byte the request
lacks), result, detail and data, and port B is decided; whatever request it answers. -/
def Obligations.TableReadsAnswerTheLiveTables : Prop :=
  ∀ (s : State) (source tag : Byte), s.Serving →
    exec (.readSetup source tag []) s =
      .next (s.answered ⟨source, [0x01, tag]⟩ .done 0 (setupImageBytes s.setup)) ∧
    (∀ i : Byte, ∀ h : i.toNat < 40, exec (.readChannel source tag [i]) s =
      .next (s.answered ⟨source, [0x03, tag, i]⟩ .done 0 (channelImageBytes (s.channelEntry ⟨i.toNat, h⟩)))) ∧
    (∀ i : Byte, 40 ≤ i.toNat → exec (.readChannel source tag [i]) s =
      .next (s.answered ⟨source, [0x03, tag, i]⟩ .badIndex 1 [])) ∧
    (∀ i : Byte, ∀ h : i.toNat < 16, exec (.readTransformer source tag [i]) s =
      .next (s.answered ⟨source, [0x05, tag, i]⟩ .done 0 (xfImageBytes (s.xfEntry ⟨i.toNat, h⟩)))) ∧
    (∀ i : Byte, 16 ≤ i.toNat → exec (.readTransformer source tag [i]) s =
      .next (s.answered ⟨source, [0x05, tag, i]⟩ .badIndex 1 [])) ∧
    (let w2 := fun n : Nat => ([BitVec.ofNat 8 (n / 256), BitVec.ofNat 8 n] : List Byte)
     let one := fun b : Byte => [b]
     let flag := fun b : Bool => ([if b then 1 else 0] : List Byte)
     let slot := fun v : MemberSlot =>
       one (match v.channel with | some c => BitVec.ofNat 8 c.val | none => 0xFF) ++ [BitVec.ofInt 8 v.weight]
     let set := fun v : ThresholdSet => w2 v.p1 ++ w2 v.p2 ++ w2 v.p3 ++ w2 v.h
     (∀ e : Setup, setupImageBytes e =
       [BitVec.ofNat 8 e.freq, BitVec.ofNat 8 e.statusInterval, BitVec.ofNat 8 e.captureLevel] ++ w2 e.watchRate
         ++ w2 e.stormRate ++ w2 e.holdTime ++ [BitVec.ofNat 8 e.quorum]
         ++ one (match e.guardSpan with | .none => 0 | .topQuarter => 1 | .topHalf => 2 | .all => 3)
         ++ flag e.lockFlag) ∧
     (∀ e : ChannelEntry, channelImageBytes e =
       one (match e.kind with | .neutral => 0 | .fieldX => 1 | .fieldY => 2) ++ w2 e.sensorId ++ [BitVec.ofNat 8 e.input]
         ++ w2 e.gain ++ w2 (BitVec.ofInt 16 e.offset).toNat
         ++ one (match e.polarity with | .plus => 0 | .minus => 1) ++ [BitVec.ofNat 8 e.shift] ++ w2 e.lostLimit
         ++ flag e.inService) ∧
     (∀ e : XfEntry, xfImageBytes e =
       slot e.slots[0] ++ slot e.slots[1] ++ slot e.slots[2] ++ slot e.slots[3] ++ set e.normal ++ set e.storm
         ++ [BitVec.ofNat 8 e.risePersistence] ++ w2 e.fallPersistence ++ flag e.latch ++ w2 e.coefficient
         ++ [BitVec.ofNat 8 e.shift] ++ w2 e.alertLimit ++ w2 e.alarmLimit ++ flag e.inService)) ∧
    (∀ (e : Setup) (c : ChannelEntry) (x : XfEntry),
      setupFieldBytes e = (setupImageBytes e).take 10 ∧ channelFieldBytes c = (channelImageBytes c).take 12 ∧
      xfFieldBytes x = (xfImageBytes x).take 35) ∧
    (∀ (u : State) (rq : Request) (result : Result) (detail : Nat) (data : List Byte),
      let code : Byte := match result with
        | .done => 0 | .notReady => 1 | .unknownRequest => 2 | .badLength => 3 | .badIndex => 4 | .guarded => 5
        | .locked => 6 | .inService => 7 | .badValue => 8
      u.answered rq result detail data =
        arbiter { u with frames := { u.frames with
          response := .ready (frameBytes 0x32 rq.source u.stationAddress
            ([rq.body.getD 0 0, rq.body.getD 1 0, code, BitVec.ofNat 8 detail] ++ data))
          forwardRun := if u.frames.status.isSome then u.frames.forwardRun else 0 } })

/-- READ STATE answers with the live record that its subject and index name, and changes nothing but the response slot
and port B. The bytes are those of R186, field by field, high byte first: 20 for a channel and 11 more for a FIELD
channel, 31 for a transformer, 14 for the station. -/
def Obligations.ReadStateAnswersTheLiveRecord : Prop :=
  ∀ (s : State) (source tag i : Byte), s.Serving →
    (∀ h : i.toNat < 40, exec (.readState source tag [1, i]) s =
      .next (s.answered ⟨source, [0x09, tag, 1, i]⟩ .done 0
        (channelStateBytes (s.channelEntry ⟨i.toNat, h⟩).kind (s.channel ⟨i.toNat, h⟩)))) ∧
    (40 ≤ i.toNat → exec (.readState source tag [1, i]) s =
      .next (s.answered ⟨source, [0x09, tag, 1, i]⟩ .badIndex 2 [])) ∧
    (∀ h : i.toNat < 16, exec (.readState source tag [2, i]) s =
      .next (s.answered ⟨source, [0x09, tag, 2, i]⟩ .done 0 (xfStateBytes (s.xf ⟨i.toNat, h⟩)))) ∧
    (16 ≤ i.toNat → exec (.readState source tag [2, i]) s =
      .next (s.answered ⟨source, [0x09, tag, 2, i]⟩ .badIndex 2 [])) ∧
    exec (.readState source tag [3, 0]) s =
      .next (s.answered ⟨source, [0x09, tag, 3, 0]⟩ .done 0 (stationStateBytes s.station)) ∧
    (i ≠ 0 → exec (.readState source tag [3, i]) s =
      .next (s.answered ⟨source, [0x09, tag, 3, i]⟩ .badIndex 2 [])) ∧
    (∀ subject : Byte, subject ≠ 1 → subject ≠ 2 → subject ≠ 3 → exec (.readState source tag [subject, i]) s =
      .next (s.answered ⟨source, [0x09, tag, subject, i]⟩ .badIndex 1 [])) ∧
    (let w2 := fun n : Nat => ([BitVec.ofNat 8 (n / 256), BitVec.ofNat 8 n] : List Byte)
     let w4 := fun n : Nat => w2 (n / 65536) ++ w2 n
     let i2 := fun v : Int => w2 (BitVec.ofInt 16 v).toNat
     let i4 := fun v : Int => w4 (BitVec.ofInt 32 v).toNat
     let one := fun b : Byte => [b]
     let flag := fun b : Bool => ([if b then 1 else 0] : List Byte)
     let cycle := fun v : Option Cycle => match v with
       | some n => (1 : Byte) :: w2 n.toNat
       | none => [0, 0, 0]
     let mean := fun v : Option Int => match v with
       | some n => i2 n
       | none => [0x80, 0]
     let ms := fun v : Option Nat => match v with
       | some ticks => w2 ((ticks + 2) / 3)
       | none => [0xFF, 0xFF]
     let slots := fun v : SlotSet => ([(if v[0] then 1 else 0) + (if v[1] then 2 else 0) + (if v[2] then 4 else 0)
       + (if v[3] then 8 else 0)] : List Byte)
     let axis := fun v : Option (Int × Channel) => match v with
       | some (rate, c) => i2 rate ++ [BitVec.ofNat 8 c.val]
       | none => [0x80, 0, 0xFF]
     (∀ (kind : ChannelKind) (r : ChannelRec), channelStateBytes kind r =
       one (match r.state with | .off => 0 | .valid => 1 | .settling => 2 | .suspect => 3 | .stale => 4 | .lost => 5)
         ++ i4 r.y ++ i2 r.mean ++ cycle r.lastCycle ++ i2 r.output ++ flag r.clipped
         ++ [BitVec.ofNat 8 r.degraded, BitVec.ofNat 8 r.good, BitVec.ofNat 8 r.settle] ++ ms r.staleTimer
         ++ ms r.lostTimer
         ++ (if kind = .neutral then []
           else i4 r.second.sum ++ [BitVec.ofNat 8 r.second.count] ++ mean r.second.latestMean
             ++ mean r.second.previousMean ++ mean r.second.latestRate)) ∧
     (∀ r : XfRec, xfStateBytes r =
       flag r.inService ++ one (match r.quality with | .good => 0 | .degraded => 1 | .noData => 2) ++ slots r.waitSet
         ++ cycle r.pendingCycle ++ slots r.marked ++ cycle r.lastCompleted ++ i2 r.current ++ w2 r.magnitude
         ++ [BitVec.ofNat 8 r.levels.condition.num, BitVec.ofNat 8 r.levels.rise, BitVec.ofNat 8 r.levels.runFloor.num]
         ++ w2 r.levels.fall ++ [BitVec.ofNat 8 r.levels.runCeiling.num, BitVec.ofNat 8 r.reported.num]
         ++ flag r.unack ++ w4 r.secondSum ++ [BitVec.ofNat 8 r.secondCount] ++ w2 r.theta
         ++ [BitVec.ofNat 8 r.thermal.num]
         ++ one (match r.levels.setUsed with | .none => 0 | .normal => 1 | .storm => 2)) ∧
     (∀ r : StationRec, stationStateBytes r =
       one (match r.state with | .calm => 0 | .watch => 1 | .storm => 2) ++ axis r.xRate ++ axis r.yRate
         ++ (match r.latestNorm with | some n => w2 n | none => [0xFF, 0xFF]) ++ [BitVec.ofNat 8 r.watchRun]
         ++ (match r.holdTimer with | some ticks => w2 ((ticks + 2999) / 3000) | none => [0xFF, 0xFF])
         ++ [BitVec.ofNat 8 r.alertCount] ++ flag r.quorumMet))

/-! ### Requests: writes -/

/-- WRITE SETUP: refused under the guard span ALL, refused for a new F while a channel is in service, refused at its
first field out of range with that field's number, and else begun as a store write that keeps the guard span and the lock
flag. Every write whose seven fields are in range is of the second kind. A store write that is begun leaves the response
slot PENDING, and port B is decided. -/
def Obligations.WriteSetupIsCheckedAndBegun : Prop :=
  ∀ (s : State) (source tag : Byte) (p : List Byte), s.Serving → p.length = 10 →
    let b := fun j : Nat => (p.getD j 0).toNat
    let w := fun j : Nat => b j * 256 + b (j + 1)
    let inRange := fun n : Nat => match n with
      | 1 => b 0 = 50 ∨ b 0 = 60
      | 2 => 1 ≤ b 1 ∧ b 1 ≤ 60
      | 3 => b 2 ≤ 4
      | 4 => 1 ≤ w 3
      | 5 => w 3 < w 5
      | 6 => 60 ≤ w 7 ∧ w 7 ≤ 7200
      | 7 => b 9 ≤ 16
      | _ => True
    (s.setup.guardSpan = .all → exec (.writeSetup source tag p) s =
      .next (s.answered ⟨source, requestBody 0x02 tag p⟩ .guarded 0 [])) ∧
    (s.setup.guardSpan ≠ .all → u8 p 0 ≠ s.setup.freq → (∃ c : Channel, (s.channel c).state ≠ .off) →
      exec (.writeSetup source tag p) s =
        .next (s.answered ⟨source, requestBody 0x02 tag p⟩ .inService 0 [])) ∧
    (∀ n, s.setup.guardSpan ≠ .all → (u8 p 0 = s.setup.freq ∨ ∀ c : Channel, (s.channel c).state = .off) →
      setupFieldFault p = some n →
      exec (.writeSetup source tag p) s =
        .next (s.answered ⟨source, requestBody 0x02 tag p⟩ .badValue n [])) ∧
    (∀ e : Setup, s.setup.guardSpan ≠ .all → (e.freq = s.setup.freq ∨ ∀ c : Channel, (s.channel c).state = .off) →
      e.InRange → p = setupFieldBytes e →
      exec (.writeSetup source tag p) s =
        .next (s.awaiting ⟨source, requestBody 0x02 tag p⟩
          (.setup { e with guardSpan := s.setup.guardSpan, lockFlag := s.setup.lockFlag }))) ∧
    (∀ n, s.setup.guardSpan ≠ .all → (b 0 = s.setup.freq ∨ ∀ c : Channel, (s.channel c).state = .off) →
      ¬inRange n → (∀ k, k < n → inRange k) →
      exec (.writeSetup source tag p) s =
        .next (s.answered ⟨source, requestBody 0x02 tag p⟩ .badValue n [])) ∧
    ((∀ n, inRange n) → ∃ e : Setup, e.InRange ∧ p = setupFieldBytes e) ∧
    (∀ (u : State) (rq : Request) (v : StoreWrite),
      u.awaiting rq v = arbiter { u with frames := { u.frames with response := .pending rq }, write := some v })

/-- WRITE CHANNEL: refused for an index above 39, inside the guard span (channels 30..39 for TOP QUARTER, 20..39 for TOP
HALF), for a channel in service, at its first field out of range with that field's number, for a source pair another
entry holds, then for a new kind of a member (log entry 27: R2 gives these two no order), and else begun as a store
write. The two tests across entries read the live tables (log entry 19). -/
def Obligations.WriteChannelIsCheckedAndBegun : Prop :=
  ∀ (s : State) (source tag : Byte) (c : Channel) (p : List Byte), s.Serving → p.length = 12 →
    let i : Byte := BitVec.ofNat 8 c.val
    let rq : Request := ⟨source, requestBody 0x04 tag (i :: p)⟩
    let guarded := s.setup.guardSpan.guardsChannel c
    let b := fun j : Nat => (p.getD j 0).toNat
    let w := fun j : Nat => b j * 256 + b (j + 1)
    let inRange := fun n : Nat => match n with
      | 1 => b 0 ≤ 2
      | 3 => b 3 ≤ 15
      | 4 => w 4 ≠ 0
      | 5 => w 6 ≠ 32768
      | 6 => b 8 ≤ 1
      | 7 => b 9 ≤ 7
      | 8 => 10 ≤ w 10 ∧ w 10 ≤ 3000
      | _ => True
    (guarded = true ↔ match s.setup.guardSpan with
      | .none => False | .topQuarter => 30 ≤ c.val | .topHalf => 20 ≤ c.val | .all => True) ∧
    (∀ n, guarded = false → (s.channel c).state = .off → ¬inRange n → (∀ k, k < n → inRange k) →
      exec (.writeChannel source tag (i :: p)) s = .next (s.answered rq .badValue n [])) ∧
    ((∀ n, inRange n) → ∃ e : ChannelEntry, e.InRange ∧ p = channelFieldBytes e) ∧
    (∀ n : Byte, 40 ≤ n.toNat → exec (.writeChannel source tag (n :: p)) s =
      .next (s.answered ⟨source, requestBody 0x04 tag (n :: p)⟩ .badIndex 1 [])) ∧
    (guarded = true → exec (.writeChannel source tag (i :: p)) s = .next (s.answered rq .guarded 0 [])) ∧
    (guarded = false → (s.channel c).state ≠ .off →
      exec (.writeChannel source tag (i :: p)) s = .next (s.answered rq .inService 0 [])) ∧
    (∀ n, guarded = false → (s.channel c).state = .off → channelFieldFault p = some n →
      exec (.writeChannel source tag (i :: p)) s = .next (s.answered rq .badValue n [])) ∧
    (∀ e : ChannelEntry, guarded = false → (s.channel c).state = .off → e.InRange → p = channelFieldBytes e →
      let pairTaken := ∃ o : Channel, o ≠ c ∧ (s.channelEntry o).sensorId = e.sensorId ∧
        (s.channelEntry o).input = e.input
      let member := ∃ (x : Xf) (j : Slot), (s.xfEntry x).slots[j].channel = some c
      (e.sensorId ≠ 0 → pairTaken →
        exec (.writeChannel source tag (i :: p)) s = .next (s.answered rq .badValue 2 [])) ∧
      ((e.sensorId = 0 ∨ ¬pairTaken) → e.kind ≠ (s.channelEntry c).kind → member →
        exec (.writeChannel source tag (i :: p)) s = .next (s.answered rq .badValue 1 [])) ∧
      ((e.sensorId = 0 ∨ ¬pairTaken) → (e.kind = (s.channelEntry c).kind ∨ ¬member) →
        exec (.writeChannel source tag (i :: p)) s =
          .next (s.awaiting rq (.channelEntry c { e with inService := false }))))

/-- WRITE TRANSFORMER: refused for an index above 15, inside the guard span (transformers 12..15 for TOP QUARTER, 8..15
for TOP HALF), in service, at its first field out of range with that field's number, at its first slot that a membership
test fails, and else begun as a store write. The membership tests read the live
tables (log entry 19), where R31 names the entries as stored. -/
def Obligations.WriteTransformerIsCheckedAndBegun : Prop :=
  ∀ (s : State) (source tag : Byte) (x : Xf) (p : List Byte), s.Serving → p.length = 35 →
    let i : Byte := BitVec.ofNat 8 x.val
    let rq : Request := ⟨source, requestBody 0x06 tag (i :: p)⟩
    let guarded := s.setup.guardSpan.guardsXf x
    let b := fun j : Nat => (p.getD j 0).toNat
    let w := fun j : Nat => b j * 256 + b (j + 1)
    let slotChannel := fun j : Nat => b j < 40 ∨ b j = 255
    let slotWeight := fun j : Nat =>
      let weight := (BitVec.ofNat 8 (b (j + 1))).toInt
      weight ≤ 8 ∧ (-8 : Int) ≤ weight ∧ (b j = 255 ↔ weight = 0)
    let inRange := fun n : Nat => match n with
      | 1 => slotChannel 0 | 2 => slotWeight 0 | 3 => slotChannel 2 | 4 => slotWeight 2
      | 5 => slotChannel 4 | 6 => slotWeight 4 | 7 => slotChannel 6 | 8 => slotWeight 6
      | 9 => 1 ≤ w 8 ∧ w 8 ≤ 5000
      | 10 => w 8 < w 10 ∧ w 10 ≤ 5000
      | 11 => w 10 < w 12 ∧ w 12 ≤ 5000
      | 12 => w 14 < w 8
      | 13 => 1 ≤ w 16 ∧ w 16 ≤ 5000
      | 14 => w 16 < w 18 ∧ w 18 ≤ 5000
      | 15 => w 18 < w 20 ∧ w 20 ≤ 5000
      | 16 => w 22 < w 16
      | 17 => 1 ≤ b 24
      | 18 => 1 ≤ w 25 ∧ w 25 ≤ 3000
      | 19 => b 27 ≤ 1
      | 20 => w 28 ≤ 4095
      | 21 => b 30 ≤ 12
      | 22 => 200 ≤ w 31
      | 23 => w 31 < w 33
      | _ => True
    (guarded = true ↔ match s.setup.guardSpan with
      | .none => False | .topQuarter => 12 ≤ x.val | .topHalf => 8 ≤ x.val | .all => True) ∧
    (∀ n, guarded = false → (s.xf x).inService = false → ¬inRange n → (∀ k, k < n → inRange k) →
      exec (.writeTransformer source tag (i :: p)) s = .next (s.answered rq .badValue n [])) ∧
    ((∀ n, inRange n) → ∃ e : XfEntry, e.InRange ∧ p = xfFieldBytes e) ∧
    (∀ n : Byte, 16 ≤ n.toNat → exec (.writeTransformer source tag (n :: p)) s =
      .next (s.answered ⟨source, requestBody 0x06 tag (n :: p)⟩ .badIndex 1 [])) ∧
    (guarded = true → exec (.writeTransformer source tag (i :: p)) s = .next (s.answered rq .guarded 0 [])) ∧
    (guarded = false → (s.xf x).inService = true →
      exec (.writeTransformer source tag (i :: p)) s = .next (s.answered rq .inService 0 [])) ∧
    (∀ n, guarded = false → (s.xf x).inService = false → xfFieldFault p = some n →
      exec (.writeTransformer source tag (i :: p)) s = .next (s.answered rq .badValue n [])) ∧
    (∀ e : XfEntry, guarded = false → (s.xf x).inService = false → e.InRange → p = xfFieldBytes e →
      (∀ j : Slot, s.SlotRefused x e j → (∀ k : Slot, k < j → ¬s.SlotRefused x e k) →
        exec (.writeTransformer source tag (i :: p)) s = .next (s.answered rq .badValue (2 * j.val + 1) [])) ∧
      ((∀ j : Slot, ¬s.SlotRefused x e j) →
        exec (.writeTransformer source tag (i :: p)) s =
          .next (s.awaiting rq (.xfEntry x { e with inService := false }))))

/-- SET SERVICE: refused for an unknown subject or index, inside the guard span as R175 has it, for a direction that is
neither in nor out, and for an entry that cannot serve; answered DONE at once where the service state already stands;
else begun as a store write of the live entry with the new in-service field. -/
def Obligations.SetServiceIsCheckedAndBegun : Prop :=
  ∀ (s : State) (source tag i d : Byte), s.Serving →
    (∀ subject : Byte, subject ≠ 1 → subject ≠ 2 → exec (.setService source tag [subject, i, d]) s =
      .next (s.answered ⟨source, [0x07, tag, subject, i, d]⟩ .badIndex 1 [])) ∧
    (40 ≤ i.toNat → exec (.setService source tag [1, i, d]) s =
      .next (s.answered ⟨source, [0x07, tag, 1, i, d]⟩ .badIndex 2 [])) ∧
    (16 ≤ i.toNat → exec (.setService source tag [2, i, d]) s =
      .next (s.answered ⟨source, [0x07, tag, 2, i, d]⟩ .badIndex 2 [])) ∧
    (∀ c : Channel, i.toNat = c.val →
      let rq : Request := ⟨source, [0x07, tag, 1, i, d]⟩
      let guarded := s.setup.guardSpan.guardsChannel c
      (guarded = true ↔ match s.setup.guardSpan with
        | .none => False | .topQuarter => 30 ≤ c.val | .topHalf => 20 ≤ c.val | .all => True) ∧
      (guarded = true → exec (.setService source tag [1, i, d]) s = .next (s.answered rq .guarded 0 [])) ∧
      (guarded = false → 1 < d.toNat →
        exec (.setService source tag [1, i, d]) s = .next (s.answered rq .badValue 3 [])) ∧
      (guarded = false → d = 1 → (s.channelEntry c).sensorId = 0 →
        exec (.setService source tag [1, i, d]) s = .next (s.answered rq .badValue 2 [])) ∧
      (guarded = false → d = 1 → (s.channelEntry c).sensorId ≠ 0 → (s.channel c).state ≠ .off →
        exec (.setService source tag [1, i, d]) s = .next (s.answered rq .done 0 [])) ∧
      (guarded = false → d = 0 → (s.channel c).state = .off →
        exec (.setService source tag [1, i, d]) s = .next (s.answered rq .done 0 [])) ∧
      (guarded = false → d = 1 → (s.channelEntry c).sensorId ≠ 0 → (s.channel c).state = .off →
        exec (.setService source tag [1, i, d]) s =
          .next (s.awaiting rq (.channelService c { s.channelEntry c with inService := true }))) ∧
      (guarded = false → d = 0 → (s.channel c).state ≠ .off →
        exec (.setService source tag [1, i, d]) s =
          .next (s.awaiting rq (.channelService c { s.channelEntry c with inService := false })))) ∧
    (∀ x : Xf, i.toNat = x.val →
      let rq : Request := ⟨source, [0x07, tag, 2, i, d]⟩
      let guarded := s.setup.guardSpan.guardsXf x
      let used := ∃ (j : Slot) (c : Channel), (s.xfEntry x).slots[j].channel = some c
      (guarded = true ↔ match s.setup.guardSpan with
        | .none => False | .topQuarter => 12 ≤ x.val | .topHalf => 8 ≤ x.val | .all => True) ∧
      (guarded = true → exec (.setService source tag [2, i, d]) s = .next (s.answered rq .guarded 0 [])) ∧
      (guarded = false → 1 < d.toNat →
        exec (.setService source tag [2, i, d]) s = .next (s.answered rq .badValue 3 [])) ∧
      (guarded = false → d = 1 → ¬used →
        exec (.setService source tag [2, i, d]) s = .next (s.answered rq .badValue 1 [])) ∧
      (guarded = false → d = 1 → used → (s.xf x).inService = true →
        exec (.setService source tag [2, i, d]) s = .next (s.answered rq .done 0 [])) ∧
      (guarded = false → d = 0 → (s.xf x).inService = false →
        exec (.setService source tag [2, i, d]) s = .next (s.answered rq .done 0 [])) ∧
      (guarded = false → d = 1 → used → (s.xf x).inService = false →
        exec (.setService source tag [2, i, d]) s =
          .next (s.awaiting rq (.xfService x { s.xfEntry x with inService := true }))) ∧
      (guarded = false → d = 0 → (s.xf x).inService = true →
        exec (.setService source tag [2, i, d]) s =
          .next (s.awaiting rq (.xfService x { s.xfEntry x with inService := false }))))

/-- SET GUARD: LOCKED exactly when the live lock flag is set and the LOCK line is asserted; refused for a span or a lock
flag out of range; else begun as a store write of the setup record with the new span and lock flag. -/
def Obligations.SetGuardIsCheckedAndBegun : Prop :=
  ∀ (s : State) (source tag span flag : Byte) (lock : Bool), s.Serving →
    let rq : Request := ⟨source, [0x0F, tag, span, flag]⟩
    (s.setup.lockFlag = true ∧ lock = true →
      exec (.setGuard source tag [span, flag] lock) s = .next (s.answered rq .locked 0 [])) ∧
    (¬(s.setup.lockFlag = true ∧ lock = true) →
      (4 ≤ span.toNat →
        exec (.setGuard source tag [span, flag] lock) s = .next (s.answered rq .badValue 1 [])) ∧
      (span.toNat < 4 → 2 ≤ flag.toNat →
        exec (.setGuard source tag [span, flag] lock) s = .next (s.answered rq .badValue 2 [])) ∧
      (∀ new : GuardSpan, span.toNat = new.code → flag.toNat < 2 →
        exec (.setGuard source tag [span, flag] lock) s =
          .next (s.awaiting rq (.guardSpan { s.setup with guardSpan := new, lockFlag := flag == 1 }))))

/-! ### Requests: acknowledgement -/

/-- ACKNOWLEDGE for one transformer: with its flag set the flag is cleared, the reported level becomes the larger of L
and T, and ALARM OUT, the LEVEL change and the level notice follow; with its flag clear nothing changes. -/
def Obligations.AcknowledgeClearsOneFlag : Prop :=
  ∀ (s : State) (source tag i : Byte), s.Serving →
    let rq : Request := ⟨source, [0x08, tag, i]⟩
    (16 ≤ i.toNat → i.toNat < 255 →
      exec (.acknowledge source tag [i]) s = .next (s.answered rq .badIndex 1 [])) ∧
    (∀ x : Xf, i.toNat = x.val →
      ((s.xf x).inService && (s.xf x).unack) = false →
      exec (.acknowledge source tag [i]) s = .next (s.answered rq .done 0 [0])) ∧
    (∀ x : Xf, i.toNat = x.val →
      (s.xf x).inService = true → (s.xf x).unack = true → (s.xf x).reported = .alarm →
      let level := Level.higher (s.xf x).levels.condition (s.xf x).thermal
      let cleared := { s with
        xfs := s.xfs.set x { s.xf x with unack := false, reported := level }
        alarmOut := (List.finRange 16).any (fun o => o ≠ x && ((s.xf o).inService && (s.xf o).unack)) }
      exec (.acknowledge source tag [i]) s =
        .next ((if level = .alarm then cleared
          else levelNotice .alarm level (takeChange (.level x) Level.alarm.rank level.rank cleared)).answered
            rq .done 0 [1]))

/-- ACKNOWLEDGE with the index 0xFF takes the transformers in index order: each whose flag is set at its turn has it
cleared, its reported level becomes the larger of L and T, and ALARM OUT, the LEVEL change and the level notice follow
before the next turn. The events that come between two transformers (log entry 13) are taken at their places, and the
answer carries the number of flags cleared. With no event inside it every flag ends clear and ALARM OUT released. Each
event has the meaning of the row of its name while the request is in hand. -/
def Obligations.AcknowledgeAllTakesEachInTurn : Prop :=
  ∀ (s : State) (source tag : Byte), s.Serving →
    let rq : Request := ⟨source, [0x08, tag, 0xFF]⟩
    let flagged := fun (u : State) (x : Xf) => (u.xf x).inService && (u.xf x).unack
    (∃ w : Nat → State,
      w 0 = { s with frames := { s.frames with response := .pending rq }, inside := [] } ∧
      (∀ x : Xf,
        let u := takeBetween s.inside x.val (w x.val)
        (flagged u x = false → w (x.val + 1) = u) ∧
        (flagged u x = true → (u.xf x).reported = .alarm →
          let level := Level.higher (u.xf x).levels.condition (u.xf x).thermal
          let cleared := { u with
            xfs := u.xfs.set x { u.xf x with unack := false, reported := level }
            alarmOut := (List.finRange 16).any (fun o => o ≠ x && flagged u o) }
          w (x.val + 1) =
            if level = .alarm then cleared
            else levelNotice .alarm level (takeChange (.level x) Level.alarm.rank level.rank cleared))) ∧
      exec (.acknowledgeAll source tag) s =
        .next ((w 16).answered rq .done 0
          [BitVec.ofNat 8 ((List.finRange 16).countP (fun x => flagged (takeBetween s.inside x.val (w x.val)) x))])) ∧
    (s.inside = [] → s.OutputsLaw → (∀ x : Xf, flagged s x = true → (s.xf x).reported = .alarm) → ∃ u : State,
      exec (.acknowledgeAll source tag) s =
        .next (u.answered rq .done 0 [BitVec.ofNat 8 ((List.finRange 16).countP (flagged s))]) ∧
      (∀ x : Xf, u.xf x =
        if flagged s x = true then
          { s.xf x with unack := false
                        reported := Level.higher (s.xf x).levels.condition (s.xf x).thermal }
        else s.xf x) ∧
      u.alarmOut = false ∧ u.channels = s.channels ∧ u.recorder = s.recorder ∧ u.banks = s.banks ∧ s.SameAround u) ∧
    (∀ (events : List Interposed) (n : Nat) (u : State),
      takeBetween events n u = (events.filter (fun v => v.after + 1 == n)).foldl (fun v e => takeEvent e.event v) u) ∧
    (∀ (event : PartEvent) (u : State), u.frames.response = .pending rq →
      (∀ frame, u.frames.txB ≠ some (.response, frame)) →
      let row : Instr := match event with
        | .frameArrival port bytes => .frameArrival port bytes false
        | .portATransmitCompletion => .portATransmitCompletion
        | .portBTransmitCompletion => .portBTransmitCompletion
        | .staleTimerExpiry c => .staleTimerExpiry c
        | .lostTimerExpiry c => .lostTimerExpiry c
        | .holdTimerExpiry => .holdTimerExpiry
        | .statusTimerExpiry => .statusTimerExpiry
        | .uptimeSecondCount => .uptimeSecondCount
      exec row u = .next (takeEvent event u))

/-! ### Requests: event queue, recorder, banks -/

/-- READ EVENTS returns the oldest n records at or above the floor, takes them out of the queue and leaves every other
record in its order; the counts of what is left stand in the answer. SET FLOOR sets the floor, moves no record, and
answers with the previous floor and the number of records at or above the new one. An n of 0 or above 8 and a floor
above 3 are refused. A record's 15 bytes are those of R186, field by field. -/
def Obligations.EventsAreReadAndTheFloorSet : Prop :=
  ∀ (s : State) (source tag n : Byte), s.Serving →
    (n = 0 ∨ 9 ≤ n.toNat → exec (.readEvents source tag [n]) s =
      .next (s.answered ⟨source, [0x0A, tag, n]⟩ .badValue 1 [])) ∧
    (1 ≤ n.toNat → n.toNat ≤ 8 →
      let eligible := fun r : EventRec => decide (s.queue.reportFloor ≤ r.priority)
      let taken := (s.queue.records.filter eligible).take n.toNat
      ∃ left : List EventRec,
        left.Sublist s.queue.records ∧
        left.filter eligible = (s.queue.records.filter eligible).drop n.toNat ∧
        left.filter (fun r => !eligible r) = s.queue.records.filter (fun r => !eligible r) ∧
        exec (.readEvents source tag [n]) s =
          .next (({ s with queue := { s.queue with records := left } } : State).answered ⟨source, [0x0A, tag, n]⟩ .done 0
            ([BitVec.ofNat 8 taken.length, BitVec.ofNat 8 (left.countP eligible),
              BitVec.ofNat 8 (left.countP (fun r => !eligible r))] ++ taken.flatMap eventBytes))) ∧
    (4 ≤ n.toNat → exec (.setFloor source tag [n]) s =
      .next (s.answered ⟨source, [0x0B, tag, n]⟩ .badValue 1 [])) ∧
    (n.toNat ≤ 3 → exec (.setFloor source tag [n]) s =
      .next (({ s with queue := { s.queue with reportFloor := n.toNat } } : State).answered ⟨source, [0x0B, tag, n]⟩
        .done 0
        [BitVec.ofNat 8 s.queue.reportFloor,
          BitVec.ofNat 8 (s.queue.records.countP (fun r => n.toNat ≤ r.priority))])) ∧
    (∀ r : EventRec,
      let w4 := fun v : Word32 =>
        ([BitVec.ofNat 8 (v.toNat / 16777216), BitVec.ofNat 8 (v.toNat / 65536), BitVec.ofNat 8 (v.toNat / 256),
          BitVec.ofNat 8 v.toNat] : List Byte)
      eventBytes r =
        (match r.key with
          | .level x => [1, BitVec.ofNat 8 x.val]
          | .channel c => [2, BitVec.ofNat 8 c.val]
          | .station => [3, 0]
          | .fault b => [4, match b with
            | .linkA => 0 | .linkB => 1 | .input => 2 | .assembly => 3 | .compute => 4 | .table => 5 | .output => 6])
          ++ w4 r.firstSecond ++ w4 r.lastSecond
          ++ [BitVec.ofNat 8 r.fromRank, BitVec.ofNat 8 r.toRank, BitVec.ofNat 8 r.peak, BitVec.ofNat 8 r.changes,
            BitVec.ofNat 8 r.priority])

/-- READ CAPTURE judges the start index by its distance d behind the run index, returns up to n records from the
effective start, and holds the effective start with OVERRUN cleared; an n of 0 or above 16 is refused. A record's 14
bytes are those of R186, field by field, and so is the reply that carries them. -/
def Obligations.ReadCaptureJudgesTheStart : Prop :=
  ∀ (s : State) (source tag b3 b2 b1 b0 n : Byte), s.Serving → s.recorder.Law →
    let rq : Request := ⟨source, [0x0C, tag, b3, b2, b1, b0, n]⟩
    let cmd : Instr := .readCapture source tag [b3, b2, b1, b0, n]
    let w2 := fun n : Nat => ([BitVec.ofNat 8 (n / 256), BitVec.ofNat 8 n] : List Byte)
    let w4 := fun n : Nat => w2 (n / 65536) ++ w2 n
    let one := fun b : Byte => [b]
    let start : Word32 :=
      BitVec.ofNat 32 (b3.toNat * 16777216 + b2.toNat * 65536 + b1.toNat * 256 + b0.toNat)
    let run := s.recorder.run
    let d := (run - start).toNat
    let a := if s.recorder.filled then 512 else run.toNat
    (n = 0 ∨ 17 ≤ n.toNat → exec cmd s = .next (s.answered rq .badValue 2 [])) ∧
    (1 ≤ n.toNat → n.toNat ≤ 16 → ∀ (readCase : ReadCase) (effective : Word32) (lost : Nat),
      (readCase, effective, lost) =
        (if d ≤ a then (ReadCase.current, start, 0)
         else if d < 2147483648 then (ReadCase.overrun, run - BitVec.ofNat 32 a, d - a)
         else (ReadCase.ahead, run, 0)) →
      let count := min n.toNat (run - effective).toNat
      ∃ records : List CaptureRec, records.length = count ∧
        (∀ i : Nat, i < count →
          s.recorder.ring[ringSlot (effective + BitVec.ofNat 32 i)] = records[i]?) ∧
        exec cmd s =
          .next (({ s with recorder := { s.recorder with held := effective, overrun := false } } : State).answered rq
            .done 0
            (one (match readCase with | .current => 0 | .overrun => 1 | .ahead => 2) ++ w4 run.toNat ++ w4 effective.toNat
              ++ w4 (effective + BitVec.ofNat 32 count).toNat ++ w4 lost
              ++ [if s.recorder.overrun then 1 else 0] ++ [BitVec.ofNat 8 count]
              ++ records.flatMap captureBytes))) ∧
    (∀ r : CaptureRec, captureBytes r =
      w4 r.second.toNat ++ [BitVec.ofNat 8 r.xf.val] ++ w2 r.meanMagnitude ++ w2 (BitVec.ofInt 16 r.current).toNat
        ++ w2 r.theta
        ++ one (match r.reported with | .quiet => 0 | .watch => 1 | .alert => 2 | .alarm => 3)
        ++ one (match r.quality with | .good => 0 | .degraded => 1 | .noData => 2)
        ++ one (match r.station with | .calm => 0 | .watch => 1 | .storm => 2))

/-- READ BANK returns the bank that its index names, or banks 0 to 6 in order for 0xFF, and changes no bank. CLEAR BANK
empties each VALID bank that its index names, in bank order, each with its FAULT change to EMPTY, changes no other bank,
and answers with the number emptied; with 0xFF the events that come between two banks (log entry 13) are taken at their
places. Both refuse an index of 7..254. A bank record's 10 bytes are those of R186, with the code numbers of section 8.5,
field by field. That READ BANK's reply carries the records with no count byte before them is the model's choice (log entry
29). -/
def Obligations.BanksAreReadAndCleared : Prop :=
  ∀ (s : State) (source tag i : Byte), s.Serving →
    let rqRead : Request := ⟨source, [0x0D, tag, i]⟩
    let rqClear : Request := ⟨source, [0x0E, tag, i]⟩
    let clear := fun (u : State) (b : BankId) =>
      takeChange (.fault b) (u.bank b).heldClass.rank HeldClass.empty.rank
        { u with banks := u.banks.set b.index
                   { valid := false, uncorrected := false, overflow := false, code := none, subject := 0, second := 0,
                     count := 0 } }
    (∀ b : BankId, i.toNat = b.index.val →
      exec (.readBank source tag [i]) s = .next (s.answered rqRead .done 0 (bankBytes b (s.bank b))) ∧
      exec (.clearBank source tag [i]) s =
        .next (if (s.bank b).valid then (clear s b).answered rqClear .done 0 [1]
          else s.answered rqClear .done 0 [0])) ∧
    (i = 0xFF →
      let all : List BankId := [.linkA, .linkB, .input, .assembly, .compute, .table, .output]
      exec (.readBank source tag [i]) s =
        .next (s.answered rqRead .done 0 (all.flatMap (fun b => bankBytes b (s.bank b)))) ∧
      (∃ w : Nat → State,
        w 0 = { s with frames := { s.frames with response := .pending rqClear }, inside := [] } ∧
        (∀ b : BankId,
          let u := takeBetween s.inside b.index.val (w b.index.val)
          w (b.index.val + 1) = if (u.bank b).valid then clear u b else u) ∧
        exec (.clearBank source tag [i]) s =
          .next ((w 7).answered rqClear .done 0
            [BitVec.ofNat 8 (all.countP (fun b =>
              ((takeBetween s.inside b.index.val (w b.index.val)).bank b).valid))])) ∧
      (s.inside = [] →
        let valid := all.filter (fun b => (s.bank b).valid)
        exec (.clearBank source tag [i]) s =
          .next ((valid.foldl clear s).answered rqClear .done 0 [BitVec.ofNat 8 valid.length]))) ∧
    (7 ≤ i.toNat → i.toNat ≤ 254 →
      exec (.readBank source tag [i]) s = .next (s.answered rqRead .badIndex 1 []) ∧
      exec (.clearBank source tag [i]) s = .next (s.answered rqClear .badIndex 1 [])) ∧
    (∀ (b : BankId) (r : BankRec),
      let bit := fun (n : Byte) (f : Bool) => if f then n else 0
      bankBytes b r =
        [match b with
          | .linkA => 0 | .linkB => 1 | .input => 2 | .assembly => 3 | .compute => 4 | .table => 5 | .output => 6,
          bit 1 r.valid + bit 2 r.uncorrected + bit 4 r.overflow,
          match r.code with
          | none => 0
          | some code => match code with
            | .crcFail | .malformedBlock | .lateMember | .channelClamp | .entryCheckFail | .statusSuperseded => 1
            | .badLength | .oldBlock | .lateBlock | .transformerClamp | .setupCheckFail => 2
            | .oversize | .sequenceBreak | .noData | .thermalClamp => 3
            | .forwardOverflow | .invalidSamples | .rateClamp => 4
            | .misdirectedRequest | .clipped => 5
            | .requestOverrun | .channelLost => 6,
          r.subject, BitVec.ofNat 8 (r.second.toNat / 16777216), BitVec.ofNat 8 (r.second.toNat / 65536),
          BitVec.ofNat 8 (r.second.toNat / 256), BitVec.ofNat 8 r.second.toNat,
          BitVec.ofNat 8 (r.count / 256), BitVec.ofNat 8 r.count])

/-! ### Requests: SEND STATUS and RESTART -/

/-- SEND STATUS builds a status frame into the status slot, superseding one that stands there unsent with its report,
and its answer is READY before port B is decided; RESTART is answered DONE with the warm restart armed. -/
def Obligations.SendStatusAndRestartAreAnswered : Prop :=
  ∀ (s : State) (source tag : Byte), s.Serving →
    (s.frames.status = none → exec (.sendStatus source tag []) s =
      .next (({ s with frames := { s.frames with status := some s.statusFrame, forwardRun := 0 } } : State).answered
        ⟨source, [0x10, tag]⟩ .done 0 [])) ∧
    (∀ unsent, s.frames.status = some unsent → exec (.sendStatus source tag []) s =
      .next ((report .output .statusSuperseded 255
        { s with frames := { s.frames with status := some s.statusFrame } }).answered
          ⟨source, [0x10, tag]⟩ .done 0 [])) ∧
    exec (.restart source tag []) s =
      .next (({ s with restartArmed := true } : State).answered ⟨source, [0x11, tag]⟩ .done 0 []) ∧
    s.statusFrame = frameBytes 0x41 0xFF s.stationAddress s.statusBody

/-! ### Requests: the checks they share -/

/-- The checks that every request shares, in their order. With the bypass closed no request and no frame reaches the
part. A request that finds the response slot occupied is discarded with REQUEST OVERRUN, and nothing but the LINK B bank
and its FAULT change is touched. While the restore is pending every other request is refused with NOT READY, whatever
its code and its body. A body without a code is refused with BAD LENGTH, a code that names no request with UNKNOWN
REQUEST, and a body that has not the length of its code with BAD LENGTH: none of them with any other effect. The discard
and NOT READY are said of the request rows and of every REQUEST frame at port B, whatever its body holds. -/
def Obligations.RequestsShareTheirChecks : Prop :=
  (∀ (i : Instr) (s : State), (s.phase = .powerAbsent ∨ s.phase = .heldInReset) →
    ((requestOf i).isSome = true ∨ ∃ port bytes lock, i = .frameArrival port bytes lock) → exec i s = .next s) ∧
  (∀ (i : Instr) (rq : Request) (s : State), requestOf i = some rq →
    (s.phase = .running ∨ s.phase = .restoring) → s.frames.response ≠ .free →
    exec i s = .next (report .linkB .requestOverrun rq.source s)) ∧
  (∀ (i : Instr) (rq : Request) (s : State), requestOf i = some rq → s.phase = .restoring →
    s.frames.response = .free → exec i s = .next (s.answered rq .notReady 0 [])) ∧
  (∀ (s : State) (source : Byte) (body : List Byte) (lock : Bool), body.length ≤ 1024 →
    ((s.phase = .running ∨ s.phase = .restoring) → s.frames.response ≠ .free →
      exec (.frameArrival .b (frameBytes kindRequest s.stationAddress source body) lock) s =
        .next (report .linkB .requestOverrun source s)) ∧
    (s.phase = .restoring → s.frames.response = .free →
      exec (.frameArrival .b (frameBytes kindRequest s.stationAddress source body) lock) s =
        .next (s.answered ⟨source, body⟩ .notReady 0 []))) ∧
  (∀ (s : State) (source : Byte) (body : List Byte) (lock : Bool), s.Serving → body.length ≤ 1024 →
    (body.length < 2 →
      exec (.frameArrival .b (frameBytes kindRequest s.stationAddress source body) lock) s =
        .next (s.answered ⟨source, body⟩ .badLength 0 [])) ∧
    (2 ≤ body.length → bodyLength (u8 body 0) = none →
      exec (.frameArrival .b (frameBytes kindRequest s.stationAddress source body) lock) s =
        .next (s.answered ⟨source, body⟩ .unknownRequest 0 []))) ∧
  (∀ (i : Instr) (rq : Request) (s : State) (n : Nat), requestOf i = some rq → s.Serving →
    bodyLength (u8 rq.body 0) = some n → rq.body.length ≠ n →
    exec i s = .next (s.answered rq .badLength 0 []))

/-- The arrival at port B of the good frame that carries a request to the part is the request's own row, whatever the
state: the two ways a request is stated agree. -/
def Obligations.RequestFrameIsItsRequest : Prop :=
  ∀ (i : Instr) (rq : Request) (s : State), requestOf i = some rq → rq.body.length ≤ 1024 →
    exec (.frameArrival .b (frameBytes kindRequest s.stationAddress rq.source rq.body) (lockOf i)) s = exec i s

/-! ### Frames -/

/-- A transmission is good exactly when it is the frame of a kind, a destination, a source and a body of at most 1024
bytes, and it is then taken as those. A frame is the start mark, kind, destination, source, body length and body, and
behind them the CRC over the kind through the body, high byte first. The CRC takes one bit after the other, most
significant first, into a register preset to 0xFFFF: the register shifts left, and where the bit shifted out differs from
the bit taken, x^12 + x^5 + 1 is added; of the nine digits it is 0x29B1. -/
def Obligations.GoodFramesAreTheFrames : Prop :=
  (∀ (bytes : List Byte) (f : GoodFrame),
    checkFrame bytes = .ok f ↔ f.body.length ≤ 1024 ∧ bytes = frameBytes f.kind f.dest f.source f.body) ∧
  (∀ (kind dest source : Byte) (body : List Byte),
    let w2 := fun n : Nat => ([BitVec.ofNat 8 (n / 256), BitVec.ofNat 8 n] : List Byte)
    frameBytes kind dest source body =
      [0xB5, 0x4A, kind, dest, source] ++ w2 body.length ++ body
        ++ w2 (crc16 ([kind, dest, source] ++ w2 body.length ++ body))) ∧
  (∀ covered : List Byte,
    let bits := covered.flatMap (fun v => (List.range 8).map (fun i => v.toNat.testBit (7 - i)))
    crc16 covered =
      bits.foldl (fun r bit => (2 * r % 65536) ^^^ (if r.testBit 15 = bit then 0 else 2 ^ 12 + 2 ^ 5 + 1)) 0xFFFF) ∧
  crc16 [0x31, 0x32, 0x33, 0x34, 0x35, 0x36, 0x37, 0x38, 0x39] = 0x29B1

/-- A failed transmission is dropped and reported to its port's LINK bank with the code of the first check it fails:
BAD LENGTH for its framing, OVERSIZE for a length field above 1024 or more than 1033 bytes, BAD LENGTH for a byte count
that the length field does not give, CRC FAIL for its CRC; a good frame that is no cycle block goes
where its destination, its kind and its port send it, and a full forward queue drops it with FORWARD OVERFLOW. -/
def Obligations.FramesArePlaced : Prop :=
  ∀ (s : State) (port : Port) (bytes : List Byte) (lock : Bool), (s.phase = .running ∨ s.phase = .restoring) →
    (∀ code, checkFrame bytes = .error code →
      exec (.frameArrival port bytes lock) s =
        .next (report (match port with | .a => .linkA | .b => .linkB) code 255 s)) ∧
    (∀ f, checkFrame bytes = .ok f → f.dest = s.stationAddress → f.kind = 0x31 → port = .a →
      exec (.frameArrival port bytes lock) s = .next (report .linkA .misdirectedRequest f.source s)) ∧
    (∀ f, checkFrame bytes = .ok f → f.dest = s.stationAddress → f.kind ≠ 0x31 → f.kind ≠ 0x21 →
      exec (.frameArrival port bytes lock) s = .next s) ∧
    (∀ f, checkFrame bytes = .ok f → f.dest ≠ s.stationAddress → f.kind ≠ 0x21 → port = .a →
      exec (.frameArrival port bytes lock) s =
        if s.frames.aToB.length < 8 then
          .next (arbiter { s with frames := { s.frames with aToB := s.frames.aToB ++ [bytes] } })
        else .next (report .linkA .forwardOverflow f.source s)) ∧
    (∀ f, checkFrame bytes = .ok f → f.dest ≠ s.stationAddress → f.kind ≠ 0x21 → port = .b →
      exec (.frameArrival port bytes lock) s =
        if s.frames.bToA.length < 4 then
          .next (portA { s with frames := { s.frames with bToA := s.frames.bToA ++ [bytes] } })
        else .next (report .linkB .forwardOverflow f.source s)) ∧
    (let b := fun j : Nat => (bytes.getD j 0).toNat
     let w := fun j : Nat => b j * 256 + b (j + 1)
     let framed := 9 ≤ bytes.length ∧ b 0 = 0xB5 ∧ b 1 = 0x4A
     let sized := w 5 ≤ 1024 ∧ bytes.length ≤ 1033
     let failed := fun code : ErrorCode => exec (.frameArrival port bytes lock) s =
       .next (report (match port with | .a => .linkA | .b => .linkB) code 255 s)
     (¬framed → failed .badLength) ∧ (framed → ¬sized → failed .oversize) ∧
     (framed → sized → bytes.length ≠ 9 + w 5 → failed .badLength) ∧
     (framed → sized → bytes.length = 9 + w 5 →
       crc16 ((bytes.drop 2).take (5 + w 5)) ≠ w (7 + w 5) → failed .crcFail))

/-- A good cycle block is examined once, whatever its destination and its port, and then consumed or forwarded; while
the restore is pending it is not examined; a malformed body is reported and changes no channel. A well-formed block of
1 to 8 inputs does what as many blocks of one input each do, one after the other in the order of the inputs, each with
the block's sensor ID and cycle number; an input that no channel in service holds is ignored. A body's bytes are those of
R183, and the cycle distance is that of R8. -/
def Obligations.CycleBlocksAreExaminedOnce : Prop :=
  ∀ (s : State) (port : Port) (bytes : List Byte) (lock : Bool) (f : GoodFrame),
    (s.phase = .running ∨ s.phase = .restoring) → checkFrame bytes = .ok f → f.kind = 0x21 →
    ∃ u : State, u = examineBlock f.body s ∧ u.frames = s.frames ∧ u.stationAddress = s.stationAddress ∧
      (f.dest = s.stationAddress → exec (.frameArrival port bytes lock) s = .next u) ∧
      (f.dest ≠ s.stationAddress → exec (.frameArrival port bytes lock) s = .next (forwardFrame port f.source bytes u)) ∧
      (s.phase = .restoring → u = s) ∧
      (s.phase = .running →
        ¬(5 ≤ f.body.length ∧ 1 ≤ u8 f.body 4 ∧ u8 f.body 4 ≤ 8 ∧ f.body.length = 5 + 65 * u8 f.body 4) →
        u = report .input .malformedBlock 255 s) ∧
      (s.phase = .running → 1 ≤ u8 f.body 4 → u8 f.body 4 ≤ 8 → f.body.length = 5 + 65 * u8 f.body 4 →
        let alone := fun i : Nat => f.body.take 4 ++ [1] ++ (f.body.drop (5 + 65 * i)).take 65
        u = (List.range (u8 f.body 4)).foldl (fun v i => examineBlock (alone i) v) s) ∧
      (f.body.length = 70 → u8 f.body 4 = 1 →
        (u16 f.body 0 = 0 ∨ ∀ c : Channel, (s.channelEntry c).sensorId = u16 f.body 0 →
          (s.channelEntry c).input = inputNumber f.body 0 → (s.channel c).state = .off) →
        u = s) ∧
      (f.dest ≠ s.stationAddress → forwardFrame port f.source bytes u =
        match port with
        | .a =>
          if u.frames.aToB.length < 8 then
            arbiter { u with frames := { u.frames with aToB := u.frames.aToB ++ [bytes] } }
          else report .linkA .forwardOverflow f.source u
        | .b =>
          if u.frames.bToA.length < 4 then
            portA { u with frames := { u.frames with bToA := u.frames.bToA ++ [bytes] } }
          else report .linkB .forwardOverflow f.source u) ∧
      (let b := fun j : Nat => (f.body.getD j 0).toNat
       let w := fun j : Nat => b j * 256 + b (j + 1)
       u16 f.body 0 = w 0 ∧ blockCycle f.body = BitVec.ofNat 16 (w 2) ∧ u8 f.body 4 = b 4 ∧
       ∀ i : Nat, inputNumber f.body i = b (5 + 65 * i) ∧
         inputSamples f.body i = (List.range 32).map (fun k =>
           let v := w (6 + 65 * i + 2 * k)
           if v < 32768 then (v : Int) else (v : Int) - 65536)) ∧
      (∀ p c : Cycle,
        let d := (c.toNat + 65536 - p.toNat) % 65536
        cycleDistance p c = if d < 32768 then (d : Int) else (d : Int) - 65536)

/-! ### Channel conditioning -/

/-- An accepted block of one input, at a channel that is SETTLING, VALID, SUSPECT or STALE: one that continues the
sequence by 1 to 4 cycles, or the first block of a reseed in SETTLING. A STALE channel returns to VALID first; each
missing cycle is filtered with the held mean, scaled, and given to the per-second step of a FIELD channel; then the
channel record takes the mean, the filter value, the clamped output, the counts, the cycle number and the full timers,
with INVALID SAMPLES or CLIPPED and CHANNEL CLAMP reported, and the state changes of R13 and R14 follow. Each change of
state enqueues its CHANNEL change and sends its notice. A NEUTRAL channel's block is then handed to the evaluator, a
FIELD channel's output to its per-second step; no other channel changes. -/
def Obligations.AcceptedBlockUpdatesTheChannel : Prop :=
  ∀ (s : State) (port : Port) (bytes : List Byte) (lock : Bool) (f : GoodFrame) (c : Channel) (first : Bool)
    (missing : Nat),
    checkFrame bytes = .ok f → f.kind = 0x21 → f.dest = s.stationAddress → s.BlockFor c f.body →
    ((first = true ∧ missing = 0 ∧ (s.channel c).state = .settling ∧ (s.channel c).lastCycle = none) ∨
      (first = false ∧ missing ≤ 3 ∧ (s.channel c).state ≠ .lost ∧
        ∃ last : Cycle, (s.channel c).lastCycle = some last ∧
          cycleDistance last (blockCycle f.body) = ((missing + 1 : Nat) : Int))) →
    let r := s.channel c
    let e := s.channelEntry c
    let subject : Byte := BitVec.ofNat 8 c.val
    let samples := inputSamples f.body 0
    let degraded := samples.any (· == -32768)
    let clipped := !degraded && samples.any (fun x => x == 32767 || x == -32767)
    let mean := if degraded then r.mean else (samples.sum + 16) / 32
    let filter := fun (m y : Int) => if e.shift = 0 then m * 256
      else y + (m * 256 - y + ((2 ^ (e.shift - 1) : Nat) : Int)) / ((2 ^ e.shift : Nat) : Int)
    let scaled := fun y : Int =>
      let v := ((y - e.offset * 256) * (e.gain : Int) + 524288) / 1048576
      match e.polarity with | .plus => v | .minus => -v
    let limit : Int := if e.kind = .neutral then 5000 else 32767
    let output := fun y : Int => if scaled y < -limit then -limit else if limit < scaled y then limit else scaled y
    let fullStale := some (3 * (3000 / s.setup.freq))
    let fullLost := some (e.lostLimit * (3000 / s.setup.freq))
    let put := fun (u : State) (v : ChannelRec) => { u with channels := u.channels.set c v }
    let change := fun (old new : ChannelState) (u : State) =>
      channelNotice c (takeChange (.channel c) old.rank new.rank u)
    let clamped := fun (y : Int) (u : State) =>
      if output y = scaled y then u else report .compute .channelClamp subject u
    let old := if r.state = .stale then ChannelState.valid else r.state
    let back :=
      if r.state = .stale then
        change .stale .valid (put s { r with state := .valid, degraded := 0, good := 0, staleTimer := fullStale })
      else s
    let begun := put back
      { back.channel c with
        lastCycle := some (blockCycle f.body), lostTimer := fullLost
        staleTimer := if old = .settling then r.staleTimer else fullStale }
    let missed := fun u : State =>
      let y := filter r.mean (u.channel c).y
      fieldOutput c (clamped y (put u { u.channel c with y := y, output := output y }))
    let filled := missed^[missing] begun
    let judged :=
      if degraded then report .input .invalidSamples subject filled
      else if clipped then report .input .clipped subject filled else filled
    let y := if first then mean * 256 else filter mean ((filter r.mean)^[missing] r.y)
    let bad := if degraded then (let n := if r.state = .stale then 0 else r.degraded
      if n < 255 then n + 1 else n) else 0
    let good := if degraded then 0 else (let n := if r.state = .stale then 0 else r.good
      if n < 255 then n + 1 else n)
    let settle := if r.state = .settling ∧ (degraded = false ∨ first = true) then r.settle - 1 else r.settle
    let state := match r.state with
      | .settling => if (degraded = false ∨ first = true) ∧ settle = 0 then ChannelState.valid else .settling
      | .valid => if bad = 8 then .suspect else .valid
      | .suspect => if good = 4 then .valid else .suspect
      | .stale => .valid
      | .off => .off
      | .lost => .lost
    let record := fun second : FieldSecond =>
      { r with
        state := state, y := y, mean := mean, lastCycle := some (blockCycle f.body), output := output y
        clipped := clipped
        degraded := if state = old then bad else 0
        good := if state = old then good else 0
        settle := settle
        staleTimer := if state = .settling then r.staleTimer else fullStale
        lostTimer := fullLost
        second := second }
    let before := (filled.channel c).second
    let taken := put (clamped y judged) (record before)
    let u := if state = old then taken else change old state taken
    let t := if e.kind = .neutral ∧ state ≠ .settling then blockArrival c (blockCycle f.body) u else fieldOutput c u
    exec (.frameArrival port bytes lock) s = .next t ∧
      u.channel c = record before ∧ (∀ o : Channel, o ≠ c → u.channel o = s.channel o) ∧ s.SameAround u ∧
      (e.kind = .neutral ∨ missing = 0 ∨ r.state = .settling → before = r.second) ∧
      (state = r.state → u.xfs = s.xfs ∧ u.recorder = s.recorder ∧ u.alarmOut = s.alarmOut) ∧
      (state = r.state → e.kind = .neutral ∨ missing = 0 → u.station = s.station) ∧
      (∃ after : FieldSecond, t.channel c = record after ∧ (e.kind = .neutral → after = r.second)) ∧
      (∀ o : Channel, o ≠ c → t.channel o = s.channel o) ∧
      (∀ x : Xf, (∀ j, s.memberMap[c] ≠ some (x, j)) → t.xf x = s.xf x) ∧ s.SameAround t

/-- An input 0 to 64 cycles behind the channel's last accepted cycle is discarded: OLD BLOCK is reported, and nothing
else changes. An input that breaks the sequence, or that reaches a LOST channel, reseeds the channel and is its first
block. A break is reported as SEQUENCE BREAK, an input in LOST is not; the record and the per-second fields take the
values of a reseed; from any state but SETTLING the channel enters SETTLING with its CHANNEL change and its notice; then
INVALID SAMPLES or CLIPPED is reported if it applies, the filter is seeded with the block's mean, the output is scaled
with CHANNEL CLAMP reported where the clamp acts, and settle remaining counts the block. -/
def Obligations.OldAndBreakingBlocks : Prop :=
  ∀ (s : State) (port : Port) (bytes : List Byte) (lock : Bool) (f : GoodFrame) (c : Channel),
    checkFrame bytes = .ok f → f.kind = 0x21 → f.dest = s.stationAddress → s.BlockFor c f.body →
    let r := s.channel c
    let e := s.channelEntry c
    let subject : Byte := BitVec.ofNat 8 c.val
    (∀ last, r.state ≠ .lost → r.lastCycle = some last →
      -64 ≤ cycleDistance last (blockCycle f.body) → cycleDistance last (blockCycle f.body) ≤ 0 →
      exec (.frameArrival port bytes lock) s = .next (report .input .oldBlock subject s)) ∧
    ((r.state = .lost ∨
      ∃ last, r.lastCycle = some last ∧
        (5 ≤ cycleDistance last (blockCycle f.body) ∨ cycleDistance last (blockCycle f.body) ≤ -65)) →
    let samples := inputSamples f.body 0
    let degraded := samples.any (· == -32768)
    let clipped := !degraded && samples.any (fun x => x == 32767 || x == -32767)
    let mean := if degraded then 0 else (samples.sum + 16) / 32
    let plain := ((mean * 256 - e.offset * 256) * (e.gain : Int) + 524288) / 1048576
    let scaled := match e.polarity with | .plus => plain | .minus => -plain
    let limit : Int := if e.kind = .neutral then 5000 else 32767
    let output := if scaled < -limit then -limit else if limit < scaled then limit else scaled
    let put := fun (u : State) (v : ChannelRec) => { u with channels := u.channels.set c v }
    let broken := if r.state = .lost then s else report .input .sequenceBreak subject s
    let reseeded := clearSecond c (put broken
      { r with
        y := 0, mean := 0, lastCycle := none, clipped := false, degraded := 0, good := 0, settle := 2 ^ e.shift + 4 })
    let settling :=
      if r.state = .settling then reseeded
      else channelNotice c (takeChange (.channel c) r.state.rank ChannelState.settling.rank
        (put reseeded { reseeded.channel c with state := .settling, staleTimer := none }))
    let judged :=
      if degraded then report .input .invalidSamples subject settling
      else if clipped then report .input .clipped subject settling else settling
    let t := put (if output = scaled then judged else report .compute .channelClamp subject judged)
      { settling.channel c with
        y := mean * 256, mean := mean, lastCycle := some (blockCycle f.body), output := output, clipped := clipped
        degraded := if degraded then 1 else 0
        good := if degraded then 0 else 1
        settle := 2 ^ e.shift + 3
        lostTimer := some (e.lostLimit * (3000 / s.setup.freq)) }
    exec (.frameArrival port bytes lock) s = .next t ∧
      (t.channel c).state = .settling ∧ (t.channel c).second = (reseeded.channel c).second ∧
      (∀ o : Channel, o ≠ c → t.channel o = s.channel o) ∧
      (∀ x : Xf, (∀ j, s.memberMap[c] ≠ some (x, j)) → t.xf x = s.xf x) ∧ s.SameAround t ∧
      (r.state ≠ .lost → (t.bank .input).valid = true))

/-- The per-second step of a FIELD channel in VALID or SUSPECT: its output is added to the second sum. At the F-th the
second mean is formed; from two means in a row the rate is formed, clamped with RATE CLAMP reported where the clamp acts,
and given to the storm monitor as a rate notice. A clearing makes every per-second field its cleared value, and
withdraws the axis rate that the channel gave. A channel of another kind or state adds nothing. -/
def Obligations.FieldSecondsAndRates : Prop :=
  ∀ (s : State) (c : Channel),
    let kind := (s.channelEntry c).kind
    let r := (s.channel c).second
    let live := (s.channel c).state = .valid ∨ (s.channel c).state = .suspect
    let sum := r.sum + (s.channel c).output
    let mean := sum / (s.setup.freq : Int)
    let held := fun v : FieldSecond => { s with channels := s.channels.set c { s.channel c with second := v } }
    let withdrawn := fun v : Option (Int × Channel) => match v with
      | some (rate, giver) => if giver = c then none else some (rate, giver)
      | none => none
    ((kind = .neutral ∨ ¬live) → fieldOutput c s = s) ∧
    (kind ≠ .neutral → live → r.count + 1 ≠ s.setup.freq →
      fieldOutput c s = held { r with sum := sum, count := r.count + 1 }) ∧
    (kind ≠ .neutral → live → r.count + 1 = s.setup.freq → r.latestMean = none →
      fieldOutput c s = held { r with sum := 0, count := 0, previousMean := none, latestMean := some mean }) ∧
    (∀ previous : Int, kind ≠ .neutral → live → r.count + 1 = s.setup.freq → r.latestMean = some previous →
      let raw := mean - previous
      let rate := if raw < -32767 then -32767 else if 32767 < raw then 32767 else raw
      let u := held { sum := 0, count := 0, previousMean := some previous, latestMean := some mean,
                      latestRate := some rate }
      fieldOutput c s =
        rateNotice c kind rate
          (if raw = rate then u else report .compute .rateClamp (BitVec.ofNat 8 c.val) u)) ∧
    (kind = .neutral → clearSecond c s = s) ∧
    (kind ≠ .neutral → clearSecond c s =
      { held { sum := 0, count := 0, latestMean := none, previousMean := none, latestRate := none } with
        station := { s.station with xRate := withdrawn s.station.xRate, yRate := withdrawn s.station.yRate } })

/-- STALE TIMER EXPIRY and LOST TIMER EXPIRY of a running timer: the channel enters STALE with its output held, or LOST
with output 0, its per-second fields cleared and CHANNEL LOST reported; either change of state enqueues its CHANNEL
change, from the state before, and sends its notice. Only the transformer that the channel is a member of can change. A
timer that is stopped does not expire (log entry 5). -/
def Obligations.ChannelTimerExpiries : Prop :=
  ∀ (s : State) (c : Channel),
    let r := s.channel c
    let put := fun v : ChannelRec => { s with channels := s.channels.set c v }
    let change := fun (new : ChannelState) (u : State) =>
      channelNotice c (takeChange (.channel c) r.state.rank new.rank u)
    (r.staleTimer = none → exec (.staleTimerExpiry c) s = .next s) ∧
    (r.lostTimer = none → exec (.lostTimerExpiry c) s = .next s) ∧
    (r.staleTimer.isSome = true →
      let t := change .stale (put { r with state := .stale, degraded := 0, good := 0, staleTimer := none })
      exec (.staleTimerExpiry c) s = .next t ∧
      t.channel c = { r with state := .stale, degraded := 0, good := 0, staleTimer := none } ∧
      (∀ o : Channel, o ≠ c → t.channel o = s.channel o) ∧
      (∀ x : Xf, (∀ j, s.memberMap[c] ≠ some (x, j)) → t.xf x = s.xf x) ∧ s.SameAround t) ∧
    (r.lostTimer.isSome = true →
      let lost :=
        { r with
          state := .lost, degraded := 0, good := 0, staleTimer := none, lostTimer := none, output := 0
          clipped := false }
      let t := change .lost (report .input .channelLost (BitVec.ofNat 8 c.val) (clearSecond c (put lost)))
      exec (.lostTimerExpiry c) s = .next t ∧
      t.channel c =
        { lost with
          second := if (s.channelEntry c).kind = .neutral then r.second
            else { sum := 0, count := 0, latestMean := none, previousMean := none, latestRate := none } } ∧
      (∀ o : Channel, o ≠ c → t.channel o = s.channel o) ∧
      (∀ x : Xf, (∀ j, s.memberMap[c] ≠ some (x, j)) → t.xf x = s.xf x) ∧ s.SameAround t ∧
      ((s.channelEntry c).kind ≠ .neutral → ∀ v, t.station.xRate ≠ some (v, c) ∧ t.station.yRate ≠ some (v, c)) ∧
      (s.phase = .running →
        t.bank .input = (s.bank .input).take s.clock.uptime .channelLost (BitVec.ofNat 8 c.val)))

/-! ### Transformer evaluator -/

/-- A block arrival at the assembly: one for the pending cycle marks its slot, and completes the assembly when every slot
of the wait set is marked; one for a later cycle completes the pending assembly, with LATE MEMBER reported once for each
slot of the wait set not marked, and opens its own; one for an earlier cycle, or for no later one than the last
completed, is a LATE BLOCK; any other opens an assembly. An assembly that opens completes at once when its slot is all
that the wait set holds. An OFF transformer and a channel that is no member take nothing. -/
def Obligations.AssemblyTakesABlock : Prop :=
  ∀ (s : State) (c : Channel) (cycle : Cycle),
    (s.memberMap[c] = none → blockArrival c cycle s = s) ∧
    (∀ (x : Xf) (j : Slot), s.memberMap[c] = some (x, j) →
      let r := s.xf x
      let subject : Byte := BitVec.ofNat 8 x.val
      let late := report .assembly .lateBlock subject s
      let opened := fun u : State =>
        let v := { u with
          xfs := u.xfs.set x ({ u.xf x with pendingCycle := some cycle, marked := (Vector.replicate 4 false).set j true }) }
        if ∀ i : Slot, r.waitSet[i] = true → i = j then complete x v else v
      (r.inService = false → blockArrival c cycle s = s) ∧
      (r.inService = true →
        (∀ p, r.pendingCycle = some p → cycleDistance p cycle = 0 →
          let marked := r.marked.set j true
          let u := { s with xfs := s.xfs.set x { r with marked := marked } }
          blockArrival c cycle s =
            if ∀ i : Slot, r.waitSet[i] = true → marked[i] = true then complete x u else u) ∧
        (∀ p, r.pendingCycle = some p → 0 < cycleDistance p cycle →
          let lateMembers := (List.finRange 4).countP (fun i => r.waitSet[i] && !r.marked[i])
          blockArrival c cycle s =
            opened (complete x ((report .assembly .lateMember subject)^[lateMembers] s))) ∧
        (∀ p, r.pendingCycle = some p → cycleDistance p cycle < 0 → blockArrival c cycle s = late) ∧
        (∀ l, r.pendingCycle = none → r.lastCompleted = some l → cycleDistance l cycle ≤ 0 →
          blockArrival c cycle s = late) ∧
        (∀ l, r.pendingCycle = none → r.lastCompleted = some l → 0 < cycleDistance l cycle →
          blockArrival c cycle s = opened s) ∧
        (r.pendingCycle = none → r.lastCompleted = none → blockArrival c cycle s = opened s)))

/-- A member's state-change notice: its slot stands in the wait set just in VALID and SUSPECT. An empty wait set makes
quality NO DATA, and a GOOD quality becomes DEGRADED when a used slot's channel is not VALID. A growth completes nothing.
A shrinkage to an empty set discards the assembly, the last completed cycle and the second, and reports NO DATA; one that
leaves every waiting slot of a pending assembly marked completes it. -/
def Obligations.MemberNoticeMovesTheWaitSet : Prop :=
  ∀ (s : State) (c : Channel),
    (s.memberMap[c] = none → channelNotice c s = s) ∧
    (∀ (x : Xf) (j : Slot), s.memberMap[c] = some (x, j) →
      let r := s.xf x
      let live := (s.channel c).state == .valid || (s.channel c).state == .suspect
      let wait := r.waitSet.set j live
      let empty := ∀ i : Slot, wait[i] = false
      let allValid := ∀ (i : Slot) (d : Channel), (s.xfEntry x).slots[i].channel = some d → (s.channel d).state = .valid
      let shrinks := r.waitSet[j] = true ∧ live = false
      let put := fun v : XfRec => { s with xfs := s.xfs.set x v }
      (r.inService = false → channelNotice c s = s) ∧
      (r.inService = true → ∀ quality : Quality,
        (empty → quality = .noData) → (¬empty → r.quality = .good → ¬allValid → quality = .degraded) →
        (¬empty → (r.quality ≠ .good ∨ allValid) → quality = r.quality) →
        let v := { r with waitSet := wait, quality := quality }
        let marked := v.pendingCycle ≠ none ∧ ∀ i : Slot, wait[i] = true → r.marked[i] = true
        (¬shrinks → channelNotice c s = put v) ∧
        (shrinks → empty → channelNotice c s =
          report .assembly .noData (BitVec.ofNat 8 x.val)
            (put { v with pendingCycle := none, marked := Vector.replicate 4 false, lastCompleted := none
                          secondSum := 0, secondCount := 0 })) ∧
        (shrinks → ¬empty → marked → channelNotice c s = complete x (put v)) ∧
        (shrinks → ¬empty → ¬marked → channelNotice c s = put v)))

/-- A completion, its five steps: it combines the members that are VALID, SUSPECT or STALE into I_xf, with TRANSFORMER
CLAMP reported where the clamp acts; it judges quality by every used slot; it closes the assembly; it evaluates the
levels and has the reported level re-derived; and it takes A into the second, or at the F-th completion gives the
thermal unit the second boundary with the sum that includes A and begins the next second at 0. It touches no other
transformer and no channel. -/
def Obligations.CompletionCombinesTheMembers : Prop :=
  ∀ (s : State) (x : Xf),
    let t := complete x s
    let r := s.xf x
    let e := s.xfEntry x
    let member := fun j : Slot => match e.slots[j].channel with
      | none => (0 : Int)
      | some c =>
        if (s.channel c).state = .valid ∨ (s.channel c).state = .suspect ∨ (s.channel c).state = .stale then
          e.slots[j].weight * (s.channel c).output
        else 0
    let raw := (member 0 + member 1 + member 2 + member 3 + 2) / 4
    let current : Int := if raw < -5000 then -5000 else if 5000 < raw then 5000 else raw
    let good := ∀ (j : Slot) (c : Channel), e.slots[j].channel = some c →
      (s.channel c).state = .valid ∧ r.marked[j] = true ∧ (s.channel c).clipped = false
    let levels := evaluateLevels e (s.station.state != .calm) current.natAbs r.levels
    let clamped := if raw = current then s else report .compute .transformerClamp (BitVec.ofNat 8 x.val) s
    (∀ quality : Quality, (good → quality = .good) → (¬good → quality = .degraded) →
      let combined :=
        { r with
          quality := quality, current := current, magnitude := current.natAbs, lastCompleted := r.pendingCycle
          pendingCycle := none, marked := Vector.replicate 4 false, levels := levels }
      let evaluated := rederive x { clamped with xfs := s.xfs.set x combined }
      let second := fun sum count : Nat =>
        { evaluated with
          xfs := evaluated.xfs.set x ({ evaluated.xf x with secondSum := sum, secondCount := count }) }
      t = if r.secondCount + 1 = s.setup.freq then thermalBoundary x (r.secondSum + current.natAbs) (second 0 0)
        else second (r.secondSum + current.natAbs) (r.secondCount + 1)) ∧
    (t.xf x).current = current ∧ (t.xf x).magnitude = current.natAbs ∧ (t.xf x).magnitude ≤ 5000 ∧
    (good → (t.xf x).quality = .good) ∧ (¬good → (t.xf x).quality = .degraded) ∧
    (t.xf x).lastCompleted = r.pendingCycle ∧ (t.xf x).pendingCycle = none ∧
    (∀ j : Slot, (t.xf x).marked[j] = false) ∧
    (t.xf x).secondCount = (if r.secondCount + 1 = s.setup.freq then 0 else r.secondCount + 1) ∧
    (t.xf x).secondSum =
      (if r.secondCount + 1 = s.setup.freq then 0 else r.secondSum + current.natAbs) ∧
    (t.xf x).levels = levels ∧
    (∀ o : Xf, o ≠ x → t.xf o = s.xf o) ∧ t.channels = s.channels ∧ s.SameAround t

/-- One evaluation, exactly. The storm set is in force in WATCH and STORM and else the normal set, and it is noted as the
set used. A pickup level above L is rising: the fall run ends, the run floor is the lowest pickup level of the run, and
at the Nr-th L becomes the floor and the run ends. A hold level below L is falling: the rise run ends, the run ceiling is
the highest hold level of the run, and at the Nf-th L becomes the ceiling and the run ends. Any other evaluation ends
both runs. Hence the condition level rises only at an evaluation that ends a run of Nr consecutive evaluations whose
pickup level exceeded it, and to no more than the lowest pickup level of the run; it falls only at an evaluation that
ends a run of Nf consecutive evaluations whose hold level was below it, and never below the highest hold level of the
run. -/
def Obligations.LevelMovesOnlyAfterARun : Prop :=
  (∀ (e : XfEntry) (es : List (Bool × Nat)) (x : Bool × Nat), e.InRange →
    let before := (evaluateRun e es).condition.num
    let after := (evaluateRun e (es ++ [x])).condition.num
    let pickup := fun v : Bool × Nat => (pickupLevel (if v.1 then e.storm else e.normal) v.2).num
    let hold := fun v : Bool × Nat => (holdLevel (if v.1 then e.storm else e.normal) v.2).num
    (before < after → ∃ older run, es ++ [x] = older ++ run ∧ run.length = e.risePersistence ∧
      ∀ v ∈ run, before < pickup v ∧ after ≤ pickup v) ∧
    (after < before → ∃ older run, es ++ [x] = older ++ run ∧ run.length = e.fallPersistence ∧
      ∀ v ∈ run, hold v < before ∧ hold v ≤ after)) ∧
  (∀ (e : XfEntry) (raised : Bool) (a : Nat) (r : LevelRec),
    let set := if raised then e.storm else e.normal
    let used : SetUsed := if raised then .storm else .normal
    let p := pickupLevel set a
    let h := holdLevel set a
    let lowest := if r.rise = 0 ∨ p.num < r.runFloor.num then p else r.runFloor
    let highest := if r.fall = 0 ∨ r.runCeiling.num < h.num then h else r.runCeiling
    let ended := fun level : Level =>
      ({ condition := level, rise := 0, runFloor := .quiet, fall := 0, runCeiling := .quiet, setUsed := used } : LevelRec)
    (r.condition.num < p.num → r.rise + 1 ≠ e.risePersistence →
      evaluateLevels e raised a r = { ended r.condition with rise := r.rise + 1, runFloor := lowest }) ∧
    (r.condition.num < p.num → r.rise + 1 = e.risePersistence → evaluateLevels e raised a r = ended lowest) ∧
    (p.num ≤ r.condition.num → h.num < r.condition.num → r.fall + 1 ≠ e.fallPersistence →
      evaluateLevels e raised a r = { ended r.condition with fall := r.fall + 1, runCeiling := highest }) ∧
    (p.num ≤ r.condition.num → h.num < r.condition.num → r.fall + 1 = e.fallPersistence →
      evaluateLevels e raised a r = ended highest) ∧
    (p.num ≤ r.condition.num → r.condition.num ≤ h.num → evaluateLevels e raised a r = ended r.condition))

/-- The pickup and the hold level of a magnitude are the highest levels whose pickups it reaches, less the hysteresis for
the hold level, and the hold level is never below the pickup level. -/
def Obligations.PickupAndHoldLevels : Prop :=
  ∀ (t : ThresholdSet) (a : Nat), t.InRange →
    (3 ≤ (pickupLevel t a).num ↔ t.p3 ≤ a) ∧ (2 ≤ (pickupLevel t a).num ↔ t.p2 ≤ a) ∧
    (1 ≤ (pickupLevel t a).num ↔ t.p1 ≤ a) ∧ (pickupLevel t a).num ≤ 3 ∧
    (3 ≤ (holdLevel t a).num ↔ t.p3 - t.h ≤ a) ∧ (2 ≤ (holdLevel t a).num ↔ t.p2 - t.h ≤ a) ∧
    (1 ≤ (holdLevel t a).num ↔ t.p1 - t.h ≤ a) ∧ (holdLevel t a).num ≤ 3 ∧
    (pickupLevel t a).num ≤ (holdLevel t a).num ∧ (t.h = 0 → holdLevel t a = pickupLevel t a)

/-- The thermal estimate steps toward its target by the shift filter, stays between its previous value and the target,
and the thermal level rises and drops by the limits and the hold bands of R85 and R86. A second boundary forms the mean
magnitude; unless the coefficient is 0 it forms the target, clamped to 65535 with THERMAL CLAMP reported just where the
product is 655360 or more, steps the estimate and the level, and has the reported level re-derived where the level
changed; then it writes its capture record just where the reported level reaches the capture level or the station is
not CALM. -/
def Obligations.SecondBoundaryMovesTheEstimate : Prop :=
  (∀ shift theta target : Nat,
    (shift = 0 → thetaStep shift theta target = target) ∧
    (1 ≤ shift → ((thetaStep shift theta target : Nat) : Int) =
      theta + ((target : Int) - theta + ((2 ^ (shift - 1) : Nat) : Int)) / ((2 ^ shift : Nat) : Int)) ∧
    min theta target ≤ thetaStep shift theta target ∧ thetaStep shift theta target ≤ max theta target) ∧
  (∀ (e : XfEntry) (theta : Nat), e.InRange →
    (e.alarmLimit ≤ theta → ∀ level, thermalLevelOf e theta level = .alarm) ∧
    (theta < e.alarmLimit → e.alertLimit ≤ theta →
      thermalLevelOf e theta .quiet = .alert ∧ thermalLevelOf e theta .alert = .alert) ∧
    (theta < e.alertLimit → thermalLevelOf e theta .quiet = .quiet) ∧
    (theta < e.alertLimit → e.alertLimit - 200 ≤ theta → thermalLevelOf e theta .alert = .alert) ∧
    (theta < e.alertLimit - 200 → thermalLevelOf e theta .alert = .quiet) ∧
    (e.alarmLimit - 200 ≤ theta → thermalLevelOf e theta .alarm = .alarm) ∧
    (theta < e.alarmLimit - 200 → e.alertLimit - 200 ≤ theta → thermalLevelOf e theta .alarm = .alert) ∧
    (theta < e.alarmLimit - 200 → theta < e.alertLimit - 200 → thermalLevelOf e theta .alarm = .quiet)) ∧
  (∀ (s : State) (x : Xf) (sum : Nat),
    let r := s.xf x
    let e := s.xfEntry x
    let mean := sum / s.setup.freq
    let captured := fun u : State =>
      if s.setup.captureLevel ≤ (u.xf x).reported.num ∨ u.station.state ≠ .calm then
        { u with recorder := u.recorder.write (
          { second := s.clock.uptime, xf := x, meanMagnitude := mean, current := r.current, theta := (u.xf x).theta,
            reported := (u.xf x).reported, quality := r.quality, station := u.station.state } : CaptureRec) }
      else u
    (e.coefficient = 0 → thermalBoundary x sum s = captured s) ∧
    (e.coefficient ≠ 0 →
      let theta := thetaStep e.shift r.theta (min (mean * e.coefficient / 10) 65535)
      let level := thermalLevelOf e theta r.thermal
      let clamped :=
        if 655360 ≤ mean * e.coefficient then report .compute .thermalClamp (BitVec.ofNat 8 x.val) s else s
      let u := { clamped with xfs := s.xfs.set x { r with theta := theta, thermal := level } }
      thermalBoundary x sum s = captured (if level = r.thermal then u else rederive x u))) ∧
  (∀ (s : State) (x : Xf),
    let r := s.xf x
    let e := s.xfEntry x
    let new := if e.latch = true ∧ r.unack = true then Level.alarm else Level.higher r.levels.condition r.thermal
    let unack := if new = .alarm then true else if r.reported = .alarm ∧ e.latch = false then false else r.unack
    let u := { s with xfs := s.xfs.set x { r with reported := new, unack := unack } }
    (new = r.reported → rederive x s = s) ∧
    (new ≠ r.reported → rederive x s =
      levelNotice r.reported new (takeChange (.level x) (r.reported.num + 1) (new.num + 1)
        { u with alarmOut := (List.finRange 16).any (fun o => (u.xf o).inService && (u.xf o).unack) })))

/-! ### Storm monitor -/

/-- A rate notice sets its axis rate, forms R as the larger magnitude plus three eighths of the smaller, and judges it:
in CALM toward STORM or, at the third in a row, WATCH; in WATCH toward STORM or a restart of the hold timer; in STORM a
restart of a running hold timer. -/
def Obligations.RateNoticeIsJudged : Prop :=
  ∀ (s : State) (c : Channel) (kind : ChannelKind) (rate : Int), kind ≠ .neutral →
    let x := if kind = .fieldX then rate.natAbs else (s.station.xRate.map (fun v => v.1.natAbs)).getD 0
    let y := if kind = .fieldY then rate.natAbs else (s.station.yRate.map (fun v => v.1.natAbs)).getD 0
    let norm := max x y + 3 * min x y / 8
    let r : StationRec :=
      { s.station with
        xRate := if kind = .fieldX then some (rate, c) else s.station.xRate
        yRate := if kind = .fieldY then some (rate, c) else s.station.yRate
        latestNorm := some norm }
    let full := some (s.setup.holdTime * 3000)
    let t := rateNotice c kind rate s
    (x ≤ 32767 → y ≤ 32767 → norm ≤ 45054) ∧
    (s.station.state = .calm → s.setup.stormRate ≤ norm → t =
      takeChange .station 0 2
        { s with station := { r with state := .storm, watchRun := 0, holdTimer := full }, stormOut := true }) ∧
    (s.station.state = .calm → s.setup.watchRate ≤ norm → norm < s.setup.stormRate →
      t = if s.station.watchRun = 2 then
          takeChange .station 0 1
            { s with station := { r with state := .watch, watchRun := 0, holdTimer := full }, stormOut := false }
        else { s with station := { r with watchRun := s.station.watchRun + 1 } }) ∧
    (s.station.state = .calm → norm < s.setup.watchRate → norm < s.setup.stormRate →
      t = { s with station := { r with watchRun := 0 } }) ∧
    (s.station.state = .watch → s.setup.stormRate ≤ norm → t =
      takeChange .station 1 2 { s with station := { r with state := .storm, holdTimer := full }, stormOut := true }) ∧
    (s.station.state = .watch → s.setup.watchRate ≤ norm → norm < s.setup.stormRate →
      t = { s with station := { r with holdTimer := full } }) ∧
    (s.station.state = .watch → norm < s.setup.watchRate → norm < s.setup.stormRate →
      t = { s with station := r }) ∧
    (s.station.state = .storm → s.setup.stormRate ≤ norm → s.station.holdTimer.isSome = true →
      t = { s with station := { r with holdTimer := full } }) ∧
    (s.station.state = .storm → (norm < s.setup.stormRate ∨ s.station.holdTimer = none) →
      t = { s with station := r })

/-- A level notice moves the alert count by the crossing of ALERT, and forms the quorum: one that becomes met takes the
station to STORM with the hold timer stopped, one that ends restarts the hold timer. -/
def Obligations.LevelNoticeFormsTheQuorum : Prop :=
  ∀ (s : State) (old new : Level),
    let count :=
      if old.num < 2 ∧ 2 ≤ new.num then s.station.alertCount + 1
      else if 2 ≤ old.num ∧ new.num < 2 then s.station.alertCount - 1 else s.station.alertCount
    let met := s.setup.quorum ≠ 0 ∧ s.setup.quorum ≤ count
    let r : StationRec := { s.station with alertCount := count }
    let t := levelNotice old new s
    (met → s.station.quorumMet = true → t = { s with station := r }) ∧
    (¬met → s.station.quorumMet = false → t = { s with station := r }) ∧
    (met → s.station.quorumMet = false → s.station.state ≠ .storm → t =
      takeChange .station s.station.state.rank StationState.storm.rank
        { s with station := { r with quorumMet := true, state := .storm, watchRun := 0, holdTimer := none }
                 stormOut := true }) ∧
    (met → s.station.quorumMet = false → s.station.state = .storm →
      t = { s with station := { r with quorumMet := true, holdTimer := none } }) ∧
    (¬met → s.station.quorumMet = true →
      t = { s with station := { r with quorumMet := false, holdTimer := some (s.setup.holdTime * 3000) } })

/-- HOLD TIMER EXPIRY drops the station one state: from WATCH to CALM with the timer stopped and the watch run 0, from
STORM to WATCH with the timer restarted. A timer that is stopped does not expire (log entry 5). -/
def Obligations.HoldTimerExpiryDropsTheStation : Prop :=
  ∀ s : State,
    (s.station.holdTimer = none → exec .holdTimerExpiry s = .next s) ∧
    (s.station.holdTimer.isSome = true → s.station.state = .watch → exec .holdTimerExpiry s =
      .next (takeChange .station 1 0
        { s with station := { s.station with state := .calm, watchRun := 0, holdTimer := none }, stormOut := false })) ∧
    (s.station.holdTimer.isSome = true → s.station.state = .storm → exec .holdTimerExpiry s =
      .next (takeChange .station 2 1
        { s with station := { s.station with state := .watch, holdTimer := some (s.setup.holdTime * 3000) }
                 stormOut := false }))

/-! ### Event queue, banks, recorder -/

/-- A change for a key without an undelivered record appends one at the tail with the change's own values; a change for a
key with a record folds into it, the record keeping its place, its from and its first second. Each change has the
priority of R114, and its values the rank order of R113. -/
def Obligations.ChangesAppendOrFold : Prop :=
  (∀ (s : State) (key : EventKey) (fromRank toRank : Nat),
    let now := s.clock.uptime
    let priority := changePriority key fromRank toRank
    ((∀ r ∈ s.queue.records, r.key ≠ key) → takeChange key fromRank toRank s =
      { s with queue := { s.queue with records := s.queue.records ++
        [{ key := key, firstSecond := now, lastSecond := now, fromRank := fromRank, toRank := toRank,
           peak := max fromRank toRank, changes := 1, priority := priority }] } }) ∧
    (∀ (older newer : List EventRec) (r : EventRec), s.queue.records = older ++ r :: newer → r.key = key →
      (∀ q ∈ older, q.key ≠ key) → takeChange key fromRank toRank s =
        { s with queue := { s.queue with records := older ++
          { key := key, firstSecond := r.firstSecond, lastSecond := now, fromRank := r.fromRank, toRank := toRank,
            peak := max r.peak toRank, changes := if r.changes < 255 then r.changes + 1 else r.changes,
            priority := max r.priority priority } :: newer } })) ∧
  (∀ (x : Xf) (a b : Level),
    changePriority (.level x) levelOffRank b.rank = 1 ∧ changePriority (.level x) a.rank levelOffRank = 1 ∧
    changePriority (.level x) a.rank b.rank = max a.num b.num) ∧
  (∀ (c : Channel) (a b : ChannelState),
    changePriority (.channel c) a.rank b.rank = if b = .lost ∨ b = .suspect then 2 else 1) ∧
  (∀ a b : StationState, changePriority .station a.rank b.rank =
    match b with | .storm => 3 | .watch => 2 | .calm => 1) ∧
  (∀ (k : BankId) (a b : HeldClass),
    changePriority (.fault k) a.rank b.rank = if b = .uncorrected then 3 else 2) ∧
  ([levelOffRank, Level.quiet.rank, Level.watch.rank, Level.alert.rank, Level.alarm.rank] = [0, 1, 2, 3, 4] ∧
   [Level.quiet.num, Level.watch.num, Level.alert.num, Level.alarm.num] = [0, 1, 2, 3] ∧
   [ChannelState.off.rank, ChannelState.valid.rank, ChannelState.settling.rank, ChannelState.suspect.rank,
       ChannelState.stale.rank, ChannelState.lost.rank] = [0, 1, 2, 3, 4, 5] ∧
   [StationState.calm.rank, StationState.watch.rank, StationState.storm.rank] = [0, 1, 2] ∧
   [HeldClass.empty.rank, HeldClass.corrected.rank, HeldClass.uncorrected.rank] = [0, 1, 2])

/-- A report that reaches an empty bank is captured, with its FAULT change from EMPTY; one that reaches a VALID bank is
counted and sets OVERFLOW, and replaces a held corrected error if it is uncorrected, with the FAULT change to
UNCORRECTED. While the restore is pending the TABLE bank alone takes reports. The class of each code is that of section
8.5. -/
def Obligations.BanksTakeReports : Prop :=
  ∀ (s : State) (b : BankId) (code : ErrorCode) (subject : Byte),
    let r := s.bank b
    let now := s.clock.uptime
    let counted := { r with count := if r.count < 65535 then r.count + 1 else 65535, overflow := true }
    let holding := fun v : BankRec => { s with banks := s.banks.set b.index v }
    (s.phase = .restoring → b ≠ .table → report b code subject s = s) ∧
    (r.count ≤ 65535 → s.phase = .running ∨ (s.phase = .restoring ∧ b = .table) →
      (r.valid = false → code.errorClass = .corrected → report b code subject s =
        takeChange (.fault b) 0 1 (holding ⟨true, false, false, some code, subject, now, 1⟩)) ∧
      (r.valid = false → code.errorClass = .uncorrected → report b code subject s =
        takeChange (.fault b) 0 2 (holding ⟨true, true, false, some code, subject, now, 1⟩)) ∧
      (r.valid = true → r.uncorrected = false → code.errorClass = .uncorrected → report b code subject s =
        takeChange (.fault b) 1 2
          (holding { counted with uncorrected := true, code := some code, subject := subject, second := now })) ∧
      (r.valid = true → (r.uncorrected = true ∨ code.errorClass = .corrected) → report b code subject s =
        holding counted)) ∧
    (∀ v ∈ ([.channelLost, .noData, .entryCheckFail, .setupCheckFail] : List ErrorCode), v.errorClass = .uncorrected) ∧
    (∀ v ∈ ([.crcFail, .badLength, .oversize, .forwardOverflow, .misdirectedRequest, .requestOverrun, .malformedBlock,
        .oldBlock, .sequenceBreak, .invalidSamples, .clipped, .lateMember, .lateBlock, .channelClamp, .transformerClamp,
        .thermalClamp, .rateClamp, .statusSuperseded] : List ErrorCode), v.errorClass = .corrected)

/-- The recorder writes a record at the run index, steps the run index, notes the 512th record, and sets OVERRUN at a
write that carries the run index more than 512 past the held read index; NEARLY FULL holds from a fill of 410. -/
def Obligations.RecorderTakesARecord : Prop :=
  ∀ (r : Recorder) (c : CaptureRec),
    let t := r.write c
    t.ring[ringSlot r.run] = some c ∧ (∀ i : Fin 512, i ≠ ringSlot r.run → t.ring[i] = r.ring[i]) ∧
    (ringSlot r.run).val = r.run.toNat % 512 ∧ t.run = r.run + 1 ∧ t.held = r.held ∧
    (t.filled = true ↔ r.filled = true ∨ t.run.toNat = 512) ∧
    (t.overrun = true ↔ r.overrun = true ∨ 512 < (t.run - t.held).toNat) ∧
    (r.overrun = true → r.fill = 512) ∧ (r.overrun = false → r.fill = (r.run - r.held).toNat) ∧
    (r.nearlyFull = true ↔ 410 ≤ r.fill)

/-! ### Ports -/

/-- A composed response is started after at most the frame already on the line and eight forwarded frames, whatever
arrives at port A meanwhile. -/
def Obligations.ResponseWaitsForEightFramesAtMost : Prop :=
  ∀ (f : FrameHandler) (frame : List Byte) (arrivals : List (List (List Byte))),
    f.forwardRun ≤ 8 → f.response = .ready frame → arrivals.length = 9 →
    ∃ n : Nat, 1 ≤ n ∧ n ≤ 9 ∧
      ((arrivals.take n).foldl FrameHandler.completeB f).txB = some (.response, frame)

/-- The arbiter: an own frame goes first when the A→B queue is empty or the forward run is 8, the response before the
status frame; otherwise the oldest forwarded frame goes, and the run counts it while an own frame waits. The transmit
completions: port A starts the oldest frame of the B→A queue; port B's transmitter is free and the arbiter decides, the
response slot FREE again after a response. A transmitter that sends nothing completes nothing (log entry 5), and one that
sends begins nothing else. -/
def Obligations.PortsSendInTurn : Prop :=
  (∀ f : FrameHandler, f.txB = none → f.forwardRun ≤ 8 →
    (∀ frame, f.response = .ready frame → (f.aToB = [] ∨ f.forwardRun = 8) → f.arbitrate =
      { f with response := .sending, txB := some (.response, frame), forwardRun := 0 }) ∧
    (∀ frame, (∀ r, f.response ≠ .ready r) → f.status = some frame → (f.aToB = [] ∨ f.forwardRun = 8) →
      f.arbitrate = { f with status := none, txB := some (.status, frame), forwardRun := 0 }) ∧
    (∀ frame rest, f.aToB = frame :: rest → ((∃ r, f.response = .ready r) ∨ f.status ≠ none) → f.forwardRun ≠ 8 →
      f.arbitrate = { f with aToB := rest, txB := some (.forward, frame), forwardRun := f.forwardRun + 1 }) ∧
    (∀ frame rest, f.aToB = frame :: rest → (∀ r, f.response ≠ .ready r) → f.status = none →
      f.arbitrate = { f with aToB := rest, txB := some (.forward, frame) }) ∧
    (f.aToB = [] → (∀ r, f.response ≠ .ready r) → f.status = none → f.arbitrate = f)) ∧
  (∀ s : State,
    (s.frames.txA = none → exec .portATransmitCompletion s = .next s) ∧
    (s.frames.txA ≠ none → exec .portATransmitCompletion s =
      .next { s with frames := { s.frames with txA := s.frames.bToA.head?, bToA := s.frames.bToA.tail } }) ∧
    (s.frames.txB = none → exec .portBTransmitCompletion s = .next s) ∧
    (∀ kind frame, s.frames.txB = some (kind, frame) → kind ≠ .response → exec .portBTransmitCompletion s =
      .next { s with frames := ({ s.frames with txB := none } : FrameHandler).arbitrate }) ∧
    (∀ frame, s.frames.txB = some (.response, frame) → s.restartArmed = false → exec .portBTransmitCompletion s =
      .next { s with frames := ({ s.frames with txB := none, response := .free } : FrameHandler).arbitrate })) ∧
  (∀ s : State,
    arbiter s = { s with frames := s.frames.arbitrate } ∧ (s.frames.txB ≠ none → arbiter s = s) ∧
    (s.frames.txA ≠ none ∨ s.frames.bToA = [] → portA s = s) ∧
    (∀ frame rest, s.frames.txA = none → s.frames.bToA = frame :: rest →
      portA s = { s with frames := { s.frames with txA := some frame, bToA := rest } }))

/-- STATUS TIMER EXPIRY builds a status frame of the state as it stands, once in each uptime second that began as a
nonzero multiple of the status interval, superseding one that stands unsent; in any other second, and a second time in
one, it does not expire (log entries 5 and 28). UPTIME SECOND COUNT adds 1 to the counter, notes whether the second that
begins is one of the status timer's, and changes nothing else but the timers (log entry 4). The body's 89 bytes are those
of R186. -/
def Obligations.StatusAndUptime : Prop :=
  ∀ s : State,
    (s.phase = .running → s.clock.statusDue = true →
      let taken := { s.clock with statusDue := false }
      (s.frames.status = none → exec .statusTimerExpiry s =
        .next (arbiter { s with
          clock := taken
          frames := { s.frames with
            status := some (frameBytes 0x41 0xFF s.stationAddress s.statusBody)
            forwardRun := if s.frames.ownWaiting then s.frames.forwardRun else 0 } })) ∧
      (∀ unsent, s.frames.status = some unsent → exec .statusTimerExpiry s =
        .next (arbiter (report .output .statusSuperseded 255 { s with
          clock := taken
          frames := { s.frames with status := some (frameBytes 0x41 0xFF s.stationAddress s.statusBody) } })))) ∧
    ((s.phase ≠ .running ∨ s.clock.statusDue = false) → exec .statusTimerExpiry s = .next s) ∧
    (s.phase ≠ .running → exec .uptimeSecondCount s = .next s) ∧
    (s.phase = .running → ∃ (channels : Vector ChannelRec 40) (hold : Option Nat),
      let second := s.clock.uptime + 1
      exec .uptimeSecondCount s =
        .next { s with
          clock := { uptime := second, subTick := 0
                     statusDue := decide (second.toNat ≠ 0 ∧ second.toNat % s.setup.statusInterval = 0) }
          channels := channels
          station := { s.station with holdTimer := hold } } ∧
      hold = s.station.holdTimer.map (· - (3000 - s.clock.subTick)) ∧
      ∀ c : Channel, channels[c] =
        { s.channel c with staleTimer := (s.channel c).staleTimer.map (· - (3000 - s.clock.subTick))
                           lostTimer := (s.channel c).lostTimer.map (· - (3000 - s.clock.subTick)) }) ∧
    (let w2 := fun n : Nat => ([BitVec.ofNat 8 (n / 256), BitVec.ofNat 8 n] : List Byte)
     let w4 := fun n : Nat => w2 (n / 65536) ++ w2 n
     let one := fun b : Byte => [b]
     let bit := fun (n : Byte) (b : Bool) => if b then n else 0
     s.statusBody.length = 89 ∧
     s.statusBody =
       w4 s.clock.uptime.toNat ++ one (match s.station.state with | .calm => 0 | .watch => 1 | .storm => 2)
         ++ (match s.station.latestNorm with | some n => w2 n | none => [0xFF, 0xFF])
         ++ [BitVec.ofNat 8 s.station.alertCount]
         ++ one (bit 1 (s.queue.records.any (fun r => s.queue.reportFloor ≤ r.priority)) + bit 2 (410 ≤ s.recorder.fill)
           + bit 4 s.recorder.overrun
           + bit 8 (([.linkA, .linkB, .input, .assembly, .compute, .table, .output] : List BankId).any
               (fun b => (s.bank b).valid)))
         ++ (List.finRange 16).flatMap (fun x =>
           one (bit 1 (s.xf x).inService
              + 2 * (match (s.xf x).reported with | .quiet => 0 | .watch => 1 | .alert => 2 | .alarm => 3)
              + 8 * (match (s.xf x).quality with | .good => 0 | .degraded => 1 | .noData => 2)
              + bit 32 (s.xf x).unack)
           ++ w2 (BitVec.ofInt 16 (s.xf x).current).toNat ++ w2 (s.xf x).theta)) ∧
    (s.frames.ownWaiting = true ↔ (∃ r, s.frames.response = .ready r) ∨ s.frames.status ≠ none)

/-! ### Table store -/

/-- STORE WRITE COMPLETION: the image is replaced, the live record takes the new values, its owner acts, and the answer
is composed: for each kind of write, what the live state then holds. A setup write has the quorum formed anew from the
new Q and the alert count: where it becomes met the hold timer stops and a station in CALM or WATCH enters STORM, with
its STATION change and STORM OUT; where it ends the hold timer restarts at the full length of the new hold time. A
channel that is placed in or removed from service enqueues its CHANNEL change and sends its notice; a transformer has
ALARM OUT set again, enqueues its LEVEL change and sends its level notice, a removal's as one to QUIET (log entry 21).
With no write in progress it does not come (log entry 5). -/
def Obligations.WriteCompletionTakesTheNewValues : Prop :=
  ∀ (s : State) (rq : Request),
    (s.write = none → exec .storeWriteCompletion s = .next s) ∧
    (∀ w, s.write = some w → s.frames.response = .pending rq → ∃ u : State,
      u.write = none ∧ s.SameBeside u ∧
      (match w with
        | .setup e =>
          u.store = { s.store with setup := sealImage (setupImageBytes e) } ∧
          u.setup = { e with guardSpan := s.setup.guardSpan, lockFlag := s.setup.lockFlag } ∧
          u.station.quorumMet = quorumCondition e.quorum s.station.alertCount ∧
          (let met := e.quorum ≠ 0 ∧ e.quorum ≤ s.station.alertCount
           let rank := match s.station.state with | .calm => 0 | .watch => 1 | .storm => 2
           let put := fun (r : StationRec) (storm : Bool) => { s with
             write := none
             store := { s.store with setup := sealImage (setupImageBytes e) }
             setup := { e with guardSpan := s.setup.guardSpan, lockFlag := s.setup.lockFlag }
             station := r
             stormOut := storm }
           ((met ↔ s.station.quorumMet = true) → u = put s.station s.stormOut) ∧
           (met → s.station.quorumMet = false → s.station.state ≠ .storm →
             u = takeChange .station rank 2
               (put { s.station with state := .storm, watchRun := 0, holdTimer := none, quorumMet := true } true)) ∧
           (met → s.station.quorumMet = false → s.station.state = .storm →
             u = put { s.station with holdTimer := none, quorumMet := true } s.stormOut) ∧
           (¬met → s.station.quorumMet = true →
             u = put { s.station with holdTimer := some (e.holdTime * 3000), quorumMet := false } s.stormOut)) ∧
          u.channels = s.channels ∧ u.xfs = s.xfs ∧ u.channelEntries = s.channelEntries ∧
          u.xfEntries = s.xfEntries ∧ u.banks = s.banks ∧ u.memberMap = s.memberMap ∧ u.recorder = s.recorder ∧
          exec .storeWriteCompletion s = .next (u.answered rq .done 0 [])
        | .guardSpan e =>
          u = { s with store := { s.store with setup := sealImage (setupImageBytes e) }, write := none
                       setup := { s.setup with guardSpan := e.guardSpan, lockFlag := e.lockFlag } } ∧
          exec .storeWriteCompletion s = .next (u.answered rq .done 0
            [BitVec.ofNat 8 e.guardSpan.code, BitVec.ofNat 8 e.lockFlag.toNat])
        | .channelEntry c e =>
          u = { s with
            store := { s.store with channels := s.store.channels.set c (sealImage (channelImageBytes e)) }
            write := none, channelEntries := s.channelEntries.set c e } ∧
          exec .storeWriteCompletion s = .next (u.answered rq .done 0 [])
        | .xfEntry x e =>
          u.store = { s.store with xfs := s.store.xfs.set x (sealImage (xfImageBytes e)) } ∧
          u.xfEntries = s.xfEntries.set x e ∧
          (∀ c : Channel, u.memberMap[c] = none ↔ ∀ (o : Xf) (j : Slot), (u.xfEntry o).slots[j].channel ≠ some c) ∧
          (∀ (c : Channel) (o : Xf) (j : Slot), u.memberMap[c] = some (o, j) →
            (u.xfEntry o).slots[j].channel = some c) ∧
          u.xf x = (if e.coefficient = 0 then { s.xf x with theta := 0, thermal := .quiet } else s.xf x) ∧
          (∀ o : Xf, o ≠ x → u.xf o = s.xf o) ∧ u.channels = s.channels ∧ u.setup = s.setup ∧
          u.channelEntries = s.channelEntries ∧ u.station = s.station ∧ u.queue = s.queue ∧ u.banks = s.banks ∧
          u.recorder = s.recorder ∧
          exec .storeWriteCompletion s = .next (u.answered rq .done 0 [])
        | .channelService c e =>
          u.store = { s.store with channels := s.store.channels.set c (sealImage (channelImageBytes e)) } ∧
          u.channelEntries = s.channelEntries.set c { s.channelEntry c with inService := e.inService } ∧
          (e.inService = true → (s.channel c).state = .off → (s.channel c).staleTimer = none →
            (u.channel c).state = .settling ∧ (u.channel c).y = 0 ∧ (u.channel c).mean = 0 ∧
            (u.channel c).lastCycle = none ∧ (u.channel c).settle = 2 ^ (s.channelEntry c).shift + 4 ∧
            (u.channel c).degraded = 0 ∧ (u.channel c).good = 0 ∧ (u.channel c).staleTimer = none ∧
            (u.channel c).lostTimer = some ((s.channelEntry c).lostLimit * (3000 / s.setup.freq))) ∧
          (let base := { s with
             write := none
             store := { s.store with channels := s.store.channels.set c (sealImage (channelImageBytes e)) }
             channelEntries := s.channelEntries.set c { s.channelEntry c with inService := e.inService } }
           (e.inService = true → (s.channel c).state = .off → u =
             channelNotice c (takeChange (.channel c) ChannelState.off.rank ChannelState.settling.rank
               (clearSecond c { base with
                 channels := s.channels.set c
                   { s.channel c with
                     state := .settling, y := 0, mean := 0, lastCycle := none, clipped := false, degraded := 0
                     good := 0, settle := 2 ^ (s.channelEntry c).shift + 4, staleTimer := none
                     lostTimer := some ((s.channelEntry c).lostLimit * (3000 / s.setup.freq)) } }))) ∧
           (e.inService = false → u =
             channelNotice c (takeChange (.channel c) (s.channel c).state.rank ChannelState.off.rank
               { clearSecond c base with
                 channels := s.channels.set c
                   { state := .off, y := 0, mean := 0, lastCycle := none, output := 0, clipped := false, degraded := 0
                     good := 0, settle := 0, staleTimer := none, lostTimer := none
                     second :=
                       { sum := 0, count := 0, latestMean := none, previousMean := none, latestRate := none } } }))) ∧
          (e.inService = false → u.channel c =
            { state := .off, y := 0, mean := 0, lastCycle := none, output := 0, clipped := false, degraded := 0,
              good := 0, settle := 0, staleTimer := none, lostTimer := none,
              second := { sum := 0, count := 0, latestMean := none, previousMean := none, latestRate := none } }) ∧
          (∀ o : Channel, o ≠ c → u.channel o = s.channel o) ∧ u.setup = s.setup ∧ u.xfEntries = s.xfEntries ∧
          u.memberMap = s.memberMap ∧
          exec .storeWriteCompletion s = .next (u.answered rq .done 0 [])
        | .xfService x e =>
          u.store = { s.store with xfs := s.store.xfs.set x (sealImage (xfImageBytes e)) } ∧
          u.xfEntries = s.xfEntries.set x { s.xfEntry x with inService := e.inService } ∧
          (u.xf x).inService = e.inService ∧ (u.xf x).quality = .noData ∧ (u.xf x).pendingCycle = none ∧
          (u.xf x).lastCompleted = none ∧ (u.xf x).reported = .quiet ∧ (u.xf x).unack = false ∧
          (u.xf x).levels.condition = .quiet ∧ (u.xf x).secondCount = 0 ∧
          (e.inService = true → (u.xf x).theta = 0 ∧ (u.xf x).thermal = .quiet ∧
            ∀ j : Slot, (u.xf x).waitSet[j] = true ↔ ∃ c : Channel, (s.xfEntry x).slots[j].channel = some c ∧
              ((s.channel c).state = .valid ∨ (s.channel c).state = .suspect)) ∧
          (e.inService = false → (u.xf x).theta = (s.xf x).theta ∧ (u.xf x).thermal = (s.xf x).thermal) ∧
          (let off := fun (theta : Nat) (thermal : Level) =>
             ({ inService := false, quality := .noData, waitSet := Vector.replicate 4 false, pendingCycle := none
                marked := Vector.replicate 4 false, lastCompleted := none, current := 0, magnitude := 0
                levels := { condition := .quiet, rise := 0, runFloor := .quiet, fall := 0, runCeiling := .quiet
                            setUsed := .none }
                reported := .quiet, unack := false, secondSum := 0, secondCount := 0, theta := theta
                thermal := thermal } : XfRec)
           let put := fun r : XfRec =>
             let v := { s with
               write := none
               store := { s.store with xfs := s.store.xfs.set x (sealImage (xfImageBytes e)) }
               xfEntries := s.xfEntries.set x { s.xfEntry x with inService := e.inService }
               xfs := s.xfs.set x r }
             { v with alarmOut := (List.finRange 16).any (fun o => (v.xf o).inService && (v.xf o).unack) }
           (e.inService = true → u = levelNotice .quiet .quiet
             (takeChange (.level x) 0 1 (put { off 0 .quiet with inService := true, waitSet := (u.xf x).waitSet }))) ∧
           (e.inService = false → u = levelNotice (s.xf x).reported .quiet
             (takeChange (.level x) ((s.xf x).reported.num + 1) 0 (put (off (s.xf x).theta (s.xf x).thermal))))) ∧
          (∀ o : Xf, o ≠ x → u.xf o = s.xf o) ∧ u.channels = s.channels ∧ u.setup = s.setup ∧
          u.channelEntries = s.channelEntries ∧ u.banks = s.banks ∧ u.memberMap = s.memberMap ∧
          u.recorder = s.recorder ∧
          exec .storeWriteCompletion s = .next (u.answered rq .done 0 [])))

/-- The three images read back: an image restores a record just where it is the record's fields with the check word over
them, the record in range (that a matching image out of range is taken as failed is log entry 7). The check word is the
CRC of the fields, high byte first, behind them. -/
def Obligations.ImagesRestoreTheirRecords : Prop :=
  (∀ e : Setup, e.InRange → setupOfImage (sealImage (setupImageBytes e)) = some e) ∧
  (∀ e : ChannelEntry, e.InRange → channelOfImage (sealImage (channelImageBytes e)) = some e) ∧
  (∀ e : XfEntry, e.InRange → xfOfImage (sealImage (xfImageBytes e)) = some e) ∧
  setupOfImage .torn = none ∧ channelOfImage .torn = none ∧ xfOfImage .torn = none ∧
  (∀ fields : List Byte, sealImage fields =
    .whole (fields ++ [BitVec.ofNat 8 (crc16 fields / 256), BitVec.ofNat 8 (crc16 fields)])) ∧
  (∀ (i : Image) (e : Setup), setupOfImage i = some e → e.InRange ∧ i = sealImage (setupImageBytes e)) ∧
  (∀ (i : Image) (e : ChannelEntry), channelOfImage i = some e → e.InRange ∧ i = sealImage (channelImageBytes e)) ∧
  (∀ (i : Image) (e : XfEntry), xfOfImage i = some e → e.InRange ∧ i = sealImage (xfImageBytes e))

/-- A completed write of each of the six kinds is what the next cold start restores; a write that a loss of power tears
is the factory default there, reported to the TABLE bank. That the start's own step reads the images is the model's
choice (log entry 17). -/
def Obligations.WritesSurviveOrAreTorn : Prop :=
  ∀ (s : State) (straps : BitVec 6),
    (∀ e : Setup, s.write = some (.setup e) → e.InRange → ∀ t u, exec .storeWriteCompletion s = .next t →
      exec (.coldStart straps) t = .next u → u.setup = e) ∧
    (∀ (c : Channel) (e : ChannelEntry), s.write = some (.channelEntry c e) → e.InRange → ∀ t u,
      exec .storeWriteCompletion s = .next t → exec (.coldStart straps) t = .next u → u.channelEntry c = e) ∧
    (∀ (x : Xf) (e : XfEntry), s.write = some (.xfEntry x e) → e.InRange → ∀ t u,
      exec .storeWriteCompletion s = .next t → exec (.coldStart straps) t = .next u → u.xfEntry x = e) ∧
    (∀ e : Setup, s.write = some (.guardSpan e) → e.InRange → ∀ t u, exec .storeWriteCompletion s = .next t →
      exec (.coldStart straps) t = .next u → u.setup = e) ∧
    (∀ (c : Channel) (e : ChannelEntry), s.write = some (.channelService c e) → e.InRange → ∀ t u,
      exec .storeWriteCompletion s = .next t → exec (.coldStart straps) t = .next u → u.channelEntry c = e) ∧
    (∀ (x : Xf) (e : XfEntry), s.write = some (.xfService x e) → e.InRange → ∀ t u,
      exec .storeWriteCompletion s = .next t → exec (.coldStart straps) t = .next u → u.xfEntry x = e) ∧
    (∀ w, s.write = some w → ∀ t u, exec .powerLoss s = .next t → exec (.coldStart straps) t = .next u →
      (u.bank .table).valid = true ∧
      (match w with
        | .setup _ => u.setup = Setup.factory
        | .guardSpan _ => u.setup = Setup.factory
        | .channelEntry c _ => u.channelEntry c = ChannelEntry.factory
        | .channelService c _ => u.channelEntry c = ChannelEntry.factory
        | .xfEntry x _ => u.xfEntry x = XfEntry.factory
        | .xfService x _ => u.xfEntry x = XfEntry.factory))

/-! ### Starts and ends -/

/-- COLD START: the station address is sampled from the straps, a write in progress is torn, every block holds its start
values, the live tables are those that the store restores, and the TABLE bank holds the first failure, in the order of
R179, and the number of failures, with one FAULT record. A failed image leaves the factory default of its record. -/
def Obligations.ColdStartValues : Prop :=
  ∀ (s : State) (straps : BitVec 6), ∃ t : State, exec (.coldStart straps) s = .next t ∧
    t.phase = .restoring ∧ t.stationAddress.toNat = 128 + straps.toNat ∧
    t.store = (tearWrite s).store ∧ t.write = none ∧ t.Restored ∧ (∀ c : Channel, t.memberMap[c] = none) ∧
    t.pending = s.pending ∧
    (∀ c : Channel, t.channel c = State.reset.channel c) ∧ (∀ x : Xf, t.xf x = State.reset.xf x) ∧
    t.station = State.reset.station ∧ t.alarmOut = false ∧ t.stormOut = false ∧
    t.recorder = State.reset.recorder ∧ t.frames = State.reset.frames ∧ t.clock.uptime = 0 ∧
    t.restartArmed = false ∧ t.queue.reportFloor = 0 ∧
    (∀ b : BankId, b ≠ .table → t.bank b = State.reset.bank b) ∧
    (t.bank .table).count = t.store.failures ∧
    (t.store.failures = 0 → t.bank .table = State.reset.bank .table ∧ t.queue.records = []) ∧
    (t.store.failures ≠ 0 → (t.bank .table).valid = true ∧ (t.bank .table).uncorrected = true ∧
      ((t.bank .table).overflow = true ↔ 2 ≤ t.store.failures) ∧
      t.queue.records = [{ key := .fault .table, firstSecond := 0, lastSecond := 0, fromRank := 0, toRank := 2,
                           peak := 2, changes := 1, priority := 3 }] ∧
      ∃ (code : ErrorCode) (subject : Nat), t.store.FirstFailure code subject ∧
        t.bank .table =
          { valid := true, uncorrected := true, overflow := decide (2 ≤ t.store.failures), code := some code
            subject := BitVec.ofNat 8 subject, second := 0, count := t.store.failures }) ∧
    (s.write = none → t.store = s.store) ∧
    (∀ w, s.write = some w → t.store =
      (match w with
        | .setup _ => { s.store with setup := .torn }
        | .guardSpan _ => { s.store with setup := .torn }
        | .channelEntry c _ => { s.store with channels := s.store.channels.set c .torn }
        | .channelService c _ => { s.store with channels := s.store.channels.set c .torn }
        | .xfEntry x _ => { s.store with xfs := s.store.xfs.set x .torn }
        | .xfService x _ => { s.store with xfs := s.store.xfs.set x .torn })) ∧
    Setup.factory =
      { freq := 50, statusInterval := 1, captureLevel := 2, watchRate := 20, stormRate := 50, holdTime := 900
        quorum := 2, guardSpan := .none, lockFlag := false } ∧
    ChannelEntry.factory =
      { kind := .neutral, sensorId := 0, input := 0, gain := 4096, offset := 0, polarity := .plus, shift := 4
        lostLimit := 100, inService := false } ∧
    XfEntry.factory =
      { slots := Vector.replicate 4 { channel := none, weight := 0 }
        normal := { p1 := 150, p2 := 300, p3 := 600, h := 30 }, storm := { p1 := 100, p2 := 200, p3 := 450, h := 30 }
        risePersistence := 5, fallPersistence := 250, latch := true, coefficient := 0, shift := 9, alertLimit := 2000
        alarmLimit := 4000, inService := false }

/-- RESTORE COMPLETION: the part runs with the uptime at 0; channels and transformers stored in service are taken up,
each reported level from the kept thermal level; the member map is built from the restored entries; the alert count and
the quorum are formed from the reported levels; and nothing but a STATION change is enqueued. With no restore pending it
does not come (log entry 5). -/
def Obligations.RestoreCompletionTakesUpTheTables : Prop :=
  ∀ s : State,
    (s.phase ≠ .restoring → exec .restoreCompletion s = .next s) ∧
    (s.phase = .restoring → (∀ c : Channel, s.channel c = ChannelRec.off) →
      (∀ x : Xf, s.xf x = XfRec.offWith (s.xf x).theta (s.xf x).thermal) → s.station = StationRec.initial →
      s.alarmOut = false →
      ∃ t : State, exec .restoreCompletion s = .next t ∧ t.phase = .running ∧ t.clock.uptime = 0 ∧
        (∀ c : Channel, t.channel c =
          if (s.channelEntry c).inService then
            { ChannelRec.off with
              state := .settling, settle := 2 ^ (s.channelEntry c).shift + 4
              lostTimer := some ((s.channelEntry c).lostLimit * (3000 / s.setup.freq)) }
          else ChannelRec.off) ∧
        (∀ x : Xf,
          let idle := (s.xfEntry x).coefficient = 0
          let theta := if idle then 0 else (s.xf x).theta
          let thermal := if idle then Level.quiet else (s.xf x).thermal
          t.xf x =
            if (s.xfEntry x).inService then
              { XfRec.offWith theta thermal with
                inService := true, reported := thermal, unack := thermal == .alarm }
            else XfRec.offWith theta thermal) ∧
        (∀ c : Channel, t.memberMap[c] = none ↔ ∀ (x : Xf) (j : Slot), (s.xfEntry x).slots[j].channel ≠ some c) ∧
        (∀ (c : Channel) (x : Xf) (j : Slot), t.memberMap[c] = some (x, j) →
          (s.xfEntry x).slots[j].channel = some c) ∧
        (t.alarmOut = true ↔ ∃ x : Xf, (t.xf x).inService = true ∧ (t.xf x).unack = true) ∧
        t.station.alertCount = t.countedXfs ∧
        (quorumCondition s.setup.quorum t.station.alertCount = false →
          t.station.state = .calm ∧ t.queue = s.queue) ∧
        (quorumCondition s.setup.quorum t.station.alertCount = true →
          t.station.state = .storm ∧ t.station.holdTimer = none ∧ t.stormOut = true ∧
          t.queue = (takeChange .station 0 2 { s with clock := { uptime := 0, subTick := 0, statusDue := false } }).queue) ∧
        t.banks = s.banks ∧ t.frames = s.frames ∧ t.recorder = s.recorder ∧ t.setup = s.setup ∧
        t.channelEntries = s.channelEntries ∧ t.xfEntries = s.xfEntries ∧ t.store = s.store ∧ t.write = s.write ∧
        t.stationAddress = s.stationAddress ∧ t.restartArmed = s.restartArmed ∧ t.inside = s.inside ∧ t.pending = s.pending) ∧
    (∀ quorum count : Nat, quorumCondition quorum count = true ↔ quorum ≠ 0 ∧ quorum ≤ count)

/-- The transmit completion of a RESTART's response begins the warm restart: the tables are restored, the station
address, the banks, Θ and T and the frame that port A sends are kept, and everything else takes its start values. Failed
images are reported to the TABLE bank as it was kept: an empty one captures the first of them, one that holds a corrected
error has it replaced by the first, and one that holds an uncorrected error only counts them. -/
def Obligations.WarmRestartKeepsBanksAndHeat : Prop :=
  ∀ (s : State) (frame : List Byte), s.frames.txB = some (.response, frame) → s.restartArmed = true →
    ∃ t : State, exec .portBTransmitCompletion s = .next t ∧
      t.phase = .restoring ∧ t.stationAddress = s.stationAddress ∧ t.store = s.store ∧ t.write = s.write ∧
      t.pending = s.pending ∧ t.Restored ∧ (∀ c : Channel, t.channel c = ChannelRec.off ∧ t.memberMap[c] = none) ∧
      (∀ x : Xf, t.xf x = XfRec.offWith (s.xf x).theta (s.xf x).thermal) ∧
      t.station = StationRec.initial ∧ t.alarmOut = false ∧ t.stormOut = false ∧
      t.recorder = Recorder.initial ∧
      t.frames = { FrameHandler.initial with txA := s.frames.txA } ∧ t.clock.uptime = 0 ∧
      t.restartArmed = false ∧ t.queue.reportFloor = 0 ∧ (∀ r ∈ t.queue.records, r.key = .fault .table) ∧
      (∀ b : BankId, b ≠ .table → t.bank b = s.bank b) ∧
      (s.store.failures = 0 → t.banks = s.banks ∧ t.queue.records = []) ∧
      (s.store.failures ≠ 0 → ∃ (code : ErrorCode) (subject : Nat), s.store.FirstFailure code subject ∧
        let b := s.bank .table
        let n := s.store.failures
        let fault := fun fromRank : Nat =>
          ([{ key := .fault .table, firstSecond := 0, lastSecond := 0, fromRank := fromRank, toRank := 2, peak := 2
              changes := 1, priority := 3 }] : List EventRec)
        let holds := fun (overflow : Bool) (count : Nat) =>
          ({ valid := true, uncorrected := true, overflow := overflow, code := some code
             subject := BitVec.ofNat 8 subject, second := 0, count := count } : BankRec)
        (b.valid = false → t.bank .table = holds (decide (2 ≤ n)) n ∧ t.queue.records = fault 0) ∧
        (b.valid = true → b.count ≤ 65535 → b.uncorrected = true →
          t.bank .table = { b with overflow := true, count := min 65535 (b.count + n) } ∧ t.queue.records = []) ∧
        (b.valid = true → b.count ≤ 65535 → b.uncorrected = false →
          t.bank .table = holds true (min 65535 (b.count + n)) ∧ t.queue.records = fault 1))

/-- RESET of 10 µs or more and POWER LOSS end the working state: the outputs are released, every frame, slot, record and
bank is discarded, and a store write in progress is torn. A shorter RESET spell is taken like a full one or missed. -/
def Obligations.ResetAndPowerLossEndTheWork : Prop :=
  ∀ s : State,
    ((s.phase = .running ∨ s.phase = .restoring) → ∃ t : State, exec (.resetAsserted .full) s = .next t ∧
      t.phase = .heldInReset) ∧
    ((s.phase = .powerAbsent ∨ s.phase = .heldInReset) → exec (.resetAsserted .full) s = .next s) ∧
    (∃ t : State, exec .powerLoss s = .next t ∧ t.phase = .powerAbsent) ∧
    (∀ (i : Instr) (t : State), (i = .powerLoss ∨ (i = .resetAsserted .full ∧
        (s.phase = .running ∨ s.phase = .restoring))) → exec i s = .next t →
      t.alarmOut = false ∧ t.stormOut = false ∧ t.frames = FrameHandler.initial ∧ t.queue.records = [] ∧
      t.recorder = Recorder.initial ∧ (∀ b : BankId, t.bank b = BankRec.empty) ∧
      (∀ c : Channel, (t.channel c).state = .off ∧ (t.channel c).lostTimer = none) ∧
      (∀ x : Xf, (t.xf x).inService = false) ∧ t.station.holdTimer = none ∧ t.write = none ∧
      t.stationAddress = s.stationAddress ∧ (s.write = none → t.store = s.store) ∧
      (∀ w, s.write = some w → t.store =
        (match w with
          | .setup _ => { s.store with setup := .torn }
          | .guardSpan _ => { s.store with setup := .torn }
          | .channelEntry c _ => { s.store with channels := s.store.channels.set c .torn }
          | .channelService c _ => { s.store with channels := s.store.channels.set c .torn }
          | .xfEntry x _ => { s.store with xfs := s.store.xfs.set x .torn }
          | .xfService x _ => { s.store with xfs := s.store.xfs.set x .torn }))) ∧
    (∃ t : State, exec (.resetAsserted .short) s = .next t ∧
      (t = { s with shortSpells := s.shortSpells + 1 } ∨
        exec (.resetAsserted .full) { s with shortSpells := s.shortSpells + 1 } = .next t))
end

