-- ==== Sys2Proof/Laws/State.lean ====
section
/-! SUPPORT. One lemma per field per update of the state, each true by rfl, and what each table reads after an update
of one of its places. -/

namespace Sys2Proof.Machine

variable (s : State)

/-! ### setChannel -/

@[simp] theorem State.setChannel_phase (c : Channel) (r : ChannelRec) : (s.setChannel c r).phase = s.phase := rfl
@[simp] theorem State.setChannel_stationAddress (c : Channel) (r : ChannelRec) : (s.setChannel c r).stationAddress = s.stationAddress := rfl
@[simp] theorem State.setChannel_setup (c : Channel) (r : ChannelRec) : (s.setChannel c r).setup = s.setup := rfl
@[simp] theorem State.setChannel_channelEntries (c : Channel) (r : ChannelRec) : (s.setChannel c r).channelEntries = s.channelEntries := rfl
@[simp] theorem State.setChannel_xfEntries (c : Channel) (r : ChannelRec) : (s.setChannel c r).xfEntries = s.xfEntries := rfl
@[simp] theorem State.setChannel_channels (c : Channel) (r : ChannelRec) : (s.setChannel c r).channels = s.channels.set c r := rfl
@[simp] theorem State.setChannel_xfs (c : Channel) (r : ChannelRec) : (s.setChannel c r).xfs = s.xfs := rfl
@[simp] theorem State.setChannel_memberMap (c : Channel) (r : ChannelRec) : (s.setChannel c r).memberMap = s.memberMap := rfl
@[simp] theorem State.setChannel_station (c : Channel) (r : ChannelRec) : (s.setChannel c r).station = s.station := rfl
@[simp] theorem State.setChannel_alarmOut (c : Channel) (r : ChannelRec) : (s.setChannel c r).alarmOut = s.alarmOut := rfl
@[simp] theorem State.setChannel_stormOut (c : Channel) (r : ChannelRec) : (s.setChannel c r).stormOut = s.stormOut := rfl
@[simp] theorem State.setChannel_queue (c : Channel) (r : ChannelRec) : (s.setChannel c r).queue = s.queue := rfl
@[simp] theorem State.setChannel_recorder (c : Channel) (r : ChannelRec) : (s.setChannel c r).recorder = s.recorder := rfl
@[simp] theorem State.setChannel_banks (c : Channel) (r : ChannelRec) : (s.setChannel c r).banks = s.banks := rfl
@[simp] theorem State.setChannel_frames (c : Channel) (r : ChannelRec) : (s.setChannel c r).frames = s.frames := rfl
@[simp] theorem State.setChannel_clock (c : Channel) (r : ChannelRec) : (s.setChannel c r).clock = s.clock := rfl
@[simp] theorem State.setChannel_restartArmed (c : Channel) (r : ChannelRec) : (s.setChannel c r).restartArmed = s.restartArmed := rfl
@[simp] theorem State.setChannel_write (c : Channel) (r : ChannelRec) : (s.setChannel c r).write = s.write := rfl
@[simp] theorem State.setChannel_store (c : Channel) (r : ChannelRec) : (s.setChannel c r).store = s.store := rfl
@[simp] theorem State.setChannel_shortSpells (c : Channel) (r : ChannelRec) : (s.setChannel c r).shortSpells = s.shortSpells := rfl
@[simp] theorem State.setChannel_inside (c : Channel) (r : ChannelRec) : (s.setChannel c r).inside = s.inside := rfl
@[simp] theorem State.setChannel_pending (c : Channel) (r : ChannelRec) : (s.setChannel c r).pending = s.pending := rfl

/-! ### setXf -/

@[simp] theorem State.setXf_phase (t : Xf) (r : XfRec) : (s.setXf t r).phase = s.phase := rfl
@[simp] theorem State.setXf_stationAddress (t : Xf) (r : XfRec) : (s.setXf t r).stationAddress = s.stationAddress := rfl
@[simp] theorem State.setXf_setup (t : Xf) (r : XfRec) : (s.setXf t r).setup = s.setup := rfl
@[simp] theorem State.setXf_channelEntries (t : Xf) (r : XfRec) : (s.setXf t r).channelEntries = s.channelEntries := rfl
@[simp] theorem State.setXf_xfEntries (t : Xf) (r : XfRec) : (s.setXf t r).xfEntries = s.xfEntries := rfl
@[simp] theorem State.setXf_channels (t : Xf) (r : XfRec) : (s.setXf t r).channels = s.channels := rfl
@[simp] theorem State.setXf_xfs (t : Xf) (r : XfRec) : (s.setXf t r).xfs = s.xfs.set t r := rfl
@[simp] theorem State.setXf_memberMap (t : Xf) (r : XfRec) : (s.setXf t r).memberMap = s.memberMap := rfl
@[simp] theorem State.setXf_station (t : Xf) (r : XfRec) : (s.setXf t r).station = s.station := rfl
@[simp] theorem State.setXf_alarmOut (t : Xf) (r : XfRec) : (s.setXf t r).alarmOut = s.alarmOut := rfl
@[simp] theorem State.setXf_stormOut (t : Xf) (r : XfRec) : (s.setXf t r).stormOut = s.stormOut := rfl
@[simp] theorem State.setXf_queue (t : Xf) (r : XfRec) : (s.setXf t r).queue = s.queue := rfl
@[simp] theorem State.setXf_recorder (t : Xf) (r : XfRec) : (s.setXf t r).recorder = s.recorder := rfl
@[simp] theorem State.setXf_banks (t : Xf) (r : XfRec) : (s.setXf t r).banks = s.banks := rfl
@[simp] theorem State.setXf_frames (t : Xf) (r : XfRec) : (s.setXf t r).frames = s.frames := rfl
@[simp] theorem State.setXf_clock (t : Xf) (r : XfRec) : (s.setXf t r).clock = s.clock := rfl
@[simp] theorem State.setXf_restartArmed (t : Xf) (r : XfRec) : (s.setXf t r).restartArmed = s.restartArmed := rfl
@[simp] theorem State.setXf_write (t : Xf) (r : XfRec) : (s.setXf t r).write = s.write := rfl
@[simp] theorem State.setXf_store (t : Xf) (r : XfRec) : (s.setXf t r).store = s.store := rfl
@[simp] theorem State.setXf_shortSpells (t : Xf) (r : XfRec) : (s.setXf t r).shortSpells = s.shortSpells := rfl
@[simp] theorem State.setXf_inside (t : Xf) (r : XfRec) : (s.setXf t r).inside = s.inside := rfl
@[simp] theorem State.setXf_pending (t : Xf) (r : XfRec) : (s.setXf t r).pending = s.pending := rfl

/-! ### setStation -/

@[simp] theorem State.setStation_phase (r : StationRec) : (s.setStation r).phase = s.phase := rfl
@[simp] theorem State.setStation_stationAddress (r : StationRec) : (s.setStation r).stationAddress = s.stationAddress := rfl
@[simp] theorem State.setStation_setup (r : StationRec) : (s.setStation r).setup = s.setup := rfl
@[simp] theorem State.setStation_channelEntries (r : StationRec) : (s.setStation r).channelEntries = s.channelEntries := rfl
@[simp] theorem State.setStation_xfEntries (r : StationRec) : (s.setStation r).xfEntries = s.xfEntries := rfl
@[simp] theorem State.setStation_channels (r : StationRec) : (s.setStation r).channels = s.channels := rfl
@[simp] theorem State.setStation_xfs (r : StationRec) : (s.setStation r).xfs = s.xfs := rfl
@[simp] theorem State.setStation_memberMap (r : StationRec) : (s.setStation r).memberMap = s.memberMap := rfl
@[simp] theorem State.setStation_station (r : StationRec) : (s.setStation r).station = r := rfl
@[simp] theorem State.setStation_alarmOut (r : StationRec) : (s.setStation r).alarmOut = s.alarmOut := rfl
@[simp] theorem State.setStation_stormOut (r : StationRec) : (s.setStation r).stormOut = s.stormOut := rfl
@[simp] theorem State.setStation_queue (r : StationRec) : (s.setStation r).queue = s.queue := rfl
@[simp] theorem State.setStation_recorder (r : StationRec) : (s.setStation r).recorder = s.recorder := rfl
@[simp] theorem State.setStation_banks (r : StationRec) : (s.setStation r).banks = s.banks := rfl
@[simp] theorem State.setStation_frames (r : StationRec) : (s.setStation r).frames = s.frames := rfl
@[simp] theorem State.setStation_clock (r : StationRec) : (s.setStation r).clock = s.clock := rfl
@[simp] theorem State.setStation_restartArmed (r : StationRec) : (s.setStation r).restartArmed = s.restartArmed := rfl
@[simp] theorem State.setStation_write (r : StationRec) : (s.setStation r).write = s.write := rfl
@[simp] theorem State.setStation_store (r : StationRec) : (s.setStation r).store = s.store := rfl
@[simp] theorem State.setStation_shortSpells (r : StationRec) : (s.setStation r).shortSpells = s.shortSpells := rfl
@[simp] theorem State.setStation_inside (r : StationRec) : (s.setStation r).inside = s.inside := rfl
@[simp] theorem State.setStation_pending (r : StationRec) : (s.setStation r).pending = s.pending := rfl

/-! ### setQueue -/

@[simp] theorem State.setQueue_phase (q : EventQueue) : (s.setQueue q).phase = s.phase := rfl
@[simp] theorem State.setQueue_stationAddress (q : EventQueue) : (s.setQueue q).stationAddress = s.stationAddress := rfl
@[simp] theorem State.setQueue_setup (q : EventQueue) : (s.setQueue q).setup = s.setup := rfl
@[simp] theorem State.setQueue_channelEntries (q : EventQueue) : (s.setQueue q).channelEntries = s.channelEntries := rfl
@[simp] theorem State.setQueue_xfEntries (q : EventQueue) : (s.setQueue q).xfEntries = s.xfEntries := rfl
@[simp] theorem State.setQueue_channels (q : EventQueue) : (s.setQueue q).channels = s.channels := rfl
@[simp] theorem State.setQueue_xfs (q : EventQueue) : (s.setQueue q).xfs = s.xfs := rfl
@[simp] theorem State.setQueue_memberMap (q : EventQueue) : (s.setQueue q).memberMap = s.memberMap := rfl
@[simp] theorem State.setQueue_station (q : EventQueue) : (s.setQueue q).station = s.station := rfl
@[simp] theorem State.setQueue_alarmOut (q : EventQueue) : (s.setQueue q).alarmOut = s.alarmOut := rfl
@[simp] theorem State.setQueue_stormOut (q : EventQueue) : (s.setQueue q).stormOut = s.stormOut := rfl
@[simp] theorem State.setQueue_queue (q : EventQueue) : (s.setQueue q).queue = q := rfl
@[simp] theorem State.setQueue_recorder (q : EventQueue) : (s.setQueue q).recorder = s.recorder := rfl
@[simp] theorem State.setQueue_banks (q : EventQueue) : (s.setQueue q).banks = s.banks := rfl
@[simp] theorem State.setQueue_frames (q : EventQueue) : (s.setQueue q).frames = s.frames := rfl
@[simp] theorem State.setQueue_clock (q : EventQueue) : (s.setQueue q).clock = s.clock := rfl
@[simp] theorem State.setQueue_restartArmed (q : EventQueue) : (s.setQueue q).restartArmed = s.restartArmed := rfl
@[simp] theorem State.setQueue_write (q : EventQueue) : (s.setQueue q).write = s.write := rfl
@[simp] theorem State.setQueue_store (q : EventQueue) : (s.setQueue q).store = s.store := rfl
@[simp] theorem State.setQueue_shortSpells (q : EventQueue) : (s.setQueue q).shortSpells = s.shortSpells := rfl
@[simp] theorem State.setQueue_inside (q : EventQueue) : (s.setQueue q).inside = s.inside := rfl
@[simp] theorem State.setQueue_pending (q : EventQueue) : (s.setQueue q).pending = s.pending := rfl

/-! ### setRecorder -/

@[simp] theorem State.setRecorder_phase (r : Recorder) : (s.setRecorder r).phase = s.phase := rfl
@[simp] theorem State.setRecorder_stationAddress (r : Recorder) : (s.setRecorder r).stationAddress = s.stationAddress := rfl
@[simp] theorem State.setRecorder_setup (r : Recorder) : (s.setRecorder r).setup = s.setup := rfl
@[simp] theorem State.setRecorder_channelEntries (r : Recorder) : (s.setRecorder r).channelEntries = s.channelEntries := rfl
@[simp] theorem State.setRecorder_xfEntries (r : Recorder) : (s.setRecorder r).xfEntries = s.xfEntries := rfl
@[simp] theorem State.setRecorder_channels (r : Recorder) : (s.setRecorder r).channels = s.channels := rfl
@[simp] theorem State.setRecorder_xfs (r : Recorder) : (s.setRecorder r).xfs = s.xfs := rfl
@[simp] theorem State.setRecorder_memberMap (r : Recorder) : (s.setRecorder r).memberMap = s.memberMap := rfl
@[simp] theorem State.setRecorder_station (r : Recorder) : (s.setRecorder r).station = s.station := rfl
@[simp] theorem State.setRecorder_alarmOut (r : Recorder) : (s.setRecorder r).alarmOut = s.alarmOut := rfl
@[simp] theorem State.setRecorder_stormOut (r : Recorder) : (s.setRecorder r).stormOut = s.stormOut := rfl
@[simp] theorem State.setRecorder_queue (r : Recorder) : (s.setRecorder r).queue = s.queue := rfl
@[simp] theorem State.setRecorder_recorder (r : Recorder) : (s.setRecorder r).recorder = r := rfl
@[simp] theorem State.setRecorder_banks (r : Recorder) : (s.setRecorder r).banks = s.banks := rfl
@[simp] theorem State.setRecorder_frames (r : Recorder) : (s.setRecorder r).frames = s.frames := rfl
@[simp] theorem State.setRecorder_clock (r : Recorder) : (s.setRecorder r).clock = s.clock := rfl
@[simp] theorem State.setRecorder_restartArmed (r : Recorder) : (s.setRecorder r).restartArmed = s.restartArmed := rfl
@[simp] theorem State.setRecorder_write (r : Recorder) : (s.setRecorder r).write = s.write := rfl
@[simp] theorem State.setRecorder_store (r : Recorder) : (s.setRecorder r).store = s.store := rfl
@[simp] theorem State.setRecorder_shortSpells (r : Recorder) : (s.setRecorder r).shortSpells = s.shortSpells := rfl
@[simp] theorem State.setRecorder_inside (r : Recorder) : (s.setRecorder r).inside = s.inside := rfl
@[simp] theorem State.setRecorder_pending (r : Recorder) : (s.setRecorder r).pending = s.pending := rfl

/-! ### setBank -/

@[simp] theorem State.setBank_phase (b : BankId) (r : BankRec) : (s.setBank b r).phase = s.phase := rfl
@[simp] theorem State.setBank_stationAddress (b : BankId) (r : BankRec) : (s.setBank b r).stationAddress = s.stationAddress := rfl
@[simp] theorem State.setBank_setup (b : BankId) (r : BankRec) : (s.setBank b r).setup = s.setup := rfl
@[simp] theorem State.setBank_channelEntries (b : BankId) (r : BankRec) : (s.setBank b r).channelEntries = s.channelEntries := rfl
@[simp] theorem State.setBank_xfEntries (b : BankId) (r : BankRec) : (s.setBank b r).xfEntries = s.xfEntries := rfl
@[simp] theorem State.setBank_channels (b : BankId) (r : BankRec) : (s.setBank b r).channels = s.channels := rfl
@[simp] theorem State.setBank_xfs (b : BankId) (r : BankRec) : (s.setBank b r).xfs = s.xfs := rfl
@[simp] theorem State.setBank_memberMap (b : BankId) (r : BankRec) : (s.setBank b r).memberMap = s.memberMap := rfl
@[simp] theorem State.setBank_station (b : BankId) (r : BankRec) : (s.setBank b r).station = s.station := rfl
@[simp] theorem State.setBank_alarmOut (b : BankId) (r : BankRec) : (s.setBank b r).alarmOut = s.alarmOut := rfl
@[simp] theorem State.setBank_stormOut (b : BankId) (r : BankRec) : (s.setBank b r).stormOut = s.stormOut := rfl
@[simp] theorem State.setBank_queue (b : BankId) (r : BankRec) : (s.setBank b r).queue = s.queue := rfl
@[simp] theorem State.setBank_recorder (b : BankId) (r : BankRec) : (s.setBank b r).recorder = s.recorder := rfl
@[simp] theorem State.setBank_banks (b : BankId) (r : BankRec) : (s.setBank b r).banks = s.banks.set b.index r := rfl
@[simp] theorem State.setBank_frames (b : BankId) (r : BankRec) : (s.setBank b r).frames = s.frames := rfl
@[simp] theorem State.setBank_clock (b : BankId) (r : BankRec) : (s.setBank b r).clock = s.clock := rfl
@[simp] theorem State.setBank_restartArmed (b : BankId) (r : BankRec) : (s.setBank b r).restartArmed = s.restartArmed := rfl
@[simp] theorem State.setBank_write (b : BankId) (r : BankRec) : (s.setBank b r).write = s.write := rfl
@[simp] theorem State.setBank_store (b : BankId) (r : BankRec) : (s.setBank b r).store = s.store := rfl
@[simp] theorem State.setBank_shortSpells (b : BankId) (r : BankRec) : (s.setBank b r).shortSpells = s.shortSpells := rfl
@[simp] theorem State.setBank_inside (b : BankId) (r : BankRec) : (s.setBank b r).inside = s.inside := rfl
@[simp] theorem State.setBank_pending (b : BankId) (r : BankRec) : (s.setBank b r).pending = s.pending := rfl

/-! ### setFrames -/

@[simp] theorem State.setFrames_phase (f : FrameHandler) : (s.setFrames f).phase = s.phase := rfl
@[simp] theorem State.setFrames_stationAddress (f : FrameHandler) : (s.setFrames f).stationAddress = s.stationAddress := rfl
@[simp] theorem State.setFrames_setup (f : FrameHandler) : (s.setFrames f).setup = s.setup := rfl
@[simp] theorem State.setFrames_channelEntries (f : FrameHandler) : (s.setFrames f).channelEntries = s.channelEntries := rfl
@[simp] theorem State.setFrames_xfEntries (f : FrameHandler) : (s.setFrames f).xfEntries = s.xfEntries := rfl
@[simp] theorem State.setFrames_channels (f : FrameHandler) : (s.setFrames f).channels = s.channels := rfl
@[simp] theorem State.setFrames_xfs (f : FrameHandler) : (s.setFrames f).xfs = s.xfs := rfl
@[simp] theorem State.setFrames_memberMap (f : FrameHandler) : (s.setFrames f).memberMap = s.memberMap := rfl
@[simp] theorem State.setFrames_station (f : FrameHandler) : (s.setFrames f).station = s.station := rfl
@[simp] theorem State.setFrames_alarmOut (f : FrameHandler) : (s.setFrames f).alarmOut = s.alarmOut := rfl
@[simp] theorem State.setFrames_stormOut (f : FrameHandler) : (s.setFrames f).stormOut = s.stormOut := rfl
@[simp] theorem State.setFrames_queue (f : FrameHandler) : (s.setFrames f).queue = s.queue := rfl
@[simp] theorem State.setFrames_recorder (f : FrameHandler) : (s.setFrames f).recorder = s.recorder := rfl
@[simp] theorem State.setFrames_banks (f : FrameHandler) : (s.setFrames f).banks = s.banks := rfl
@[simp] theorem State.setFrames_frames (f : FrameHandler) : (s.setFrames f).frames = f := rfl
@[simp] theorem State.setFrames_clock (f : FrameHandler) : (s.setFrames f).clock = s.clock := rfl
@[simp] theorem State.setFrames_restartArmed (f : FrameHandler) : (s.setFrames f).restartArmed = s.restartArmed := rfl
@[simp] theorem State.setFrames_write (f : FrameHandler) : (s.setFrames f).write = s.write := rfl
@[simp] theorem State.setFrames_store (f : FrameHandler) : (s.setFrames f).store = s.store := rfl
@[simp] theorem State.setFrames_shortSpells (f : FrameHandler) : (s.setFrames f).shortSpells = s.shortSpells := rfl
@[simp] theorem State.setFrames_inside (f : FrameHandler) : (s.setFrames f).inside = s.inside := rfl
@[simp] theorem State.setFrames_pending (f : FrameHandler) : (s.setFrames f).pending = s.pending := rfl

/-! ### setAlarmOut -/

@[simp] theorem State.setAlarmOut_phase (b : Bool) : (s.setAlarmOut b).phase = s.phase := rfl
@[simp] theorem State.setAlarmOut_stationAddress (b : Bool) : (s.setAlarmOut b).stationAddress = s.stationAddress := rfl
@[simp] theorem State.setAlarmOut_setup (b : Bool) : (s.setAlarmOut b).setup = s.setup := rfl
@[simp] theorem State.setAlarmOut_channelEntries (b : Bool) : (s.setAlarmOut b).channelEntries = s.channelEntries := rfl
@[simp] theorem State.setAlarmOut_xfEntries (b : Bool) : (s.setAlarmOut b).xfEntries = s.xfEntries := rfl
@[simp] theorem State.setAlarmOut_channels (b : Bool) : (s.setAlarmOut b).channels = s.channels := rfl
@[simp] theorem State.setAlarmOut_xfs (b : Bool) : (s.setAlarmOut b).xfs = s.xfs := rfl
@[simp] theorem State.setAlarmOut_memberMap (b : Bool) : (s.setAlarmOut b).memberMap = s.memberMap := rfl
@[simp] theorem State.setAlarmOut_station (b : Bool) : (s.setAlarmOut b).station = s.station := rfl
@[simp] theorem State.setAlarmOut_alarmOut (b : Bool) : (s.setAlarmOut b).alarmOut = b := rfl
@[simp] theorem State.setAlarmOut_stormOut (b : Bool) : (s.setAlarmOut b).stormOut = s.stormOut := rfl
@[simp] theorem State.setAlarmOut_queue (b : Bool) : (s.setAlarmOut b).queue = s.queue := rfl
@[simp] theorem State.setAlarmOut_recorder (b : Bool) : (s.setAlarmOut b).recorder = s.recorder := rfl
@[simp] theorem State.setAlarmOut_banks (b : Bool) : (s.setAlarmOut b).banks = s.banks := rfl
@[simp] theorem State.setAlarmOut_frames (b : Bool) : (s.setAlarmOut b).frames = s.frames := rfl
@[simp] theorem State.setAlarmOut_clock (b : Bool) : (s.setAlarmOut b).clock = s.clock := rfl
@[simp] theorem State.setAlarmOut_restartArmed (b : Bool) : (s.setAlarmOut b).restartArmed = s.restartArmed := rfl
@[simp] theorem State.setAlarmOut_write (b : Bool) : (s.setAlarmOut b).write = s.write := rfl
@[simp] theorem State.setAlarmOut_store (b : Bool) : (s.setAlarmOut b).store = s.store := rfl
@[simp] theorem State.setAlarmOut_shortSpells (b : Bool) : (s.setAlarmOut b).shortSpells = s.shortSpells := rfl
@[simp] theorem State.setAlarmOut_inside (b : Bool) : (s.setAlarmOut b).inside = s.inside := rfl
@[simp] theorem State.setAlarmOut_pending (b : Bool) : (s.setAlarmOut b).pending = s.pending := rfl

/-! ### setStormOut -/

@[simp] theorem State.setStormOut_phase (b : Bool) : (s.setStormOut b).phase = s.phase := rfl
@[simp] theorem State.setStormOut_stationAddress (b : Bool) : (s.setStormOut b).stationAddress = s.stationAddress := rfl
@[simp] theorem State.setStormOut_setup (b : Bool) : (s.setStormOut b).setup = s.setup := rfl
@[simp] theorem State.setStormOut_channelEntries (b : Bool) : (s.setStormOut b).channelEntries = s.channelEntries := rfl
@[simp] theorem State.setStormOut_xfEntries (b : Bool) : (s.setStormOut b).xfEntries = s.xfEntries := rfl
@[simp] theorem State.setStormOut_channels (b : Bool) : (s.setStormOut b).channels = s.channels := rfl
@[simp] theorem State.setStormOut_xfs (b : Bool) : (s.setStormOut b).xfs = s.xfs := rfl
@[simp] theorem State.setStormOut_memberMap (b : Bool) : (s.setStormOut b).memberMap = s.memberMap := rfl
@[simp] theorem State.setStormOut_station (b : Bool) : (s.setStormOut b).station = s.station := rfl
@[simp] theorem State.setStormOut_alarmOut (b : Bool) : (s.setStormOut b).alarmOut = s.alarmOut := rfl
@[simp] theorem State.setStormOut_stormOut (b : Bool) : (s.setStormOut b).stormOut = b := rfl
@[simp] theorem State.setStormOut_queue (b : Bool) : (s.setStormOut b).queue = s.queue := rfl
@[simp] theorem State.setStormOut_recorder (b : Bool) : (s.setStormOut b).recorder = s.recorder := rfl
@[simp] theorem State.setStormOut_banks (b : Bool) : (s.setStormOut b).banks = s.banks := rfl
@[simp] theorem State.setStormOut_frames (b : Bool) : (s.setStormOut b).frames = s.frames := rfl
@[simp] theorem State.setStormOut_clock (b : Bool) : (s.setStormOut b).clock = s.clock := rfl
@[simp] theorem State.setStormOut_restartArmed (b : Bool) : (s.setStormOut b).restartArmed = s.restartArmed := rfl
@[simp] theorem State.setStormOut_write (b : Bool) : (s.setStormOut b).write = s.write := rfl
@[simp] theorem State.setStormOut_store (b : Bool) : (s.setStormOut b).store = s.store := rfl
@[simp] theorem State.setStormOut_shortSpells (b : Bool) : (s.setStormOut b).shortSpells = s.shortSpells := rfl
@[simp] theorem State.setStormOut_inside (b : Bool) : (s.setStormOut b).inside = s.inside := rfl
@[simp] theorem State.setStormOut_pending (b : Bool) : (s.setStormOut b).pending = s.pending := rfl

/-! ### setWrite -/

@[simp] theorem State.setWrite_phase (w : Option StoreWrite) : (s.setWrite w).phase = s.phase := rfl
@[simp] theorem State.setWrite_stationAddress (w : Option StoreWrite) : (s.setWrite w).stationAddress = s.stationAddress := rfl
@[simp] theorem State.setWrite_setup (w : Option StoreWrite) : (s.setWrite w).setup = s.setup := rfl
@[simp] theorem State.setWrite_channelEntries (w : Option StoreWrite) : (s.setWrite w).channelEntries = s.channelEntries := rfl
@[simp] theorem State.setWrite_xfEntries (w : Option StoreWrite) : (s.setWrite w).xfEntries = s.xfEntries := rfl
@[simp] theorem State.setWrite_channels (w : Option StoreWrite) : (s.setWrite w).channels = s.channels := rfl
@[simp] theorem State.setWrite_xfs (w : Option StoreWrite) : (s.setWrite w).xfs = s.xfs := rfl
@[simp] theorem State.setWrite_memberMap (w : Option StoreWrite) : (s.setWrite w).memberMap = s.memberMap := rfl
@[simp] theorem State.setWrite_station (w : Option StoreWrite) : (s.setWrite w).station = s.station := rfl
@[simp] theorem State.setWrite_alarmOut (w : Option StoreWrite) : (s.setWrite w).alarmOut = s.alarmOut := rfl
@[simp] theorem State.setWrite_stormOut (w : Option StoreWrite) : (s.setWrite w).stormOut = s.stormOut := rfl
@[simp] theorem State.setWrite_queue (w : Option StoreWrite) : (s.setWrite w).queue = s.queue := rfl
@[simp] theorem State.setWrite_recorder (w : Option StoreWrite) : (s.setWrite w).recorder = s.recorder := rfl
@[simp] theorem State.setWrite_banks (w : Option StoreWrite) : (s.setWrite w).banks = s.banks := rfl
@[simp] theorem State.setWrite_frames (w : Option StoreWrite) : (s.setWrite w).frames = s.frames := rfl
@[simp] theorem State.setWrite_clock (w : Option StoreWrite) : (s.setWrite w).clock = s.clock := rfl
@[simp] theorem State.setWrite_restartArmed (w : Option StoreWrite) : (s.setWrite w).restartArmed = s.restartArmed := rfl
@[simp] theorem State.setWrite_write (w : Option StoreWrite) : (s.setWrite w).write = w := rfl
@[simp] theorem State.setWrite_store (w : Option StoreWrite) : (s.setWrite w).store = s.store := rfl
@[simp] theorem State.setWrite_shortSpells (w : Option StoreWrite) : (s.setWrite w).shortSpells = s.shortSpells := rfl
@[simp] theorem State.setWrite_inside (w : Option StoreWrite) : (s.setWrite w).inside = s.inside := rfl
@[simp] theorem State.setWrite_pending (w : Option StoreWrite) : (s.setWrite w).pending = s.pending := rfl

/-! ### setSetup -/

@[simp] theorem State.setSetup_phase (e : Setup) : (s.setSetup e).phase = s.phase := rfl
@[simp] theorem State.setSetup_stationAddress (e : Setup) : (s.setSetup e).stationAddress = s.stationAddress := rfl
@[simp] theorem State.setSetup_setup (e : Setup) : (s.setSetup e).setup = e := rfl
@[simp] theorem State.setSetup_channelEntries (e : Setup) : (s.setSetup e).channelEntries = s.channelEntries := rfl
@[simp] theorem State.setSetup_xfEntries (e : Setup) : (s.setSetup e).xfEntries = s.xfEntries := rfl
@[simp] theorem State.setSetup_channels (e : Setup) : (s.setSetup e).channels = s.channels := rfl
@[simp] theorem State.setSetup_xfs (e : Setup) : (s.setSetup e).xfs = s.xfs := rfl
@[simp] theorem State.setSetup_memberMap (e : Setup) : (s.setSetup e).memberMap = s.memberMap := rfl
@[simp] theorem State.setSetup_station (e : Setup) : (s.setSetup e).station = s.station := rfl
@[simp] theorem State.setSetup_alarmOut (e : Setup) : (s.setSetup e).alarmOut = s.alarmOut := rfl
@[simp] theorem State.setSetup_stormOut (e : Setup) : (s.setSetup e).stormOut = s.stormOut := rfl
@[simp] theorem State.setSetup_queue (e : Setup) : (s.setSetup e).queue = s.queue := rfl
@[simp] theorem State.setSetup_recorder (e : Setup) : (s.setSetup e).recorder = s.recorder := rfl
@[simp] theorem State.setSetup_banks (e : Setup) : (s.setSetup e).banks = s.banks := rfl
@[simp] theorem State.setSetup_frames (e : Setup) : (s.setSetup e).frames = s.frames := rfl
@[simp] theorem State.setSetup_clock (e : Setup) : (s.setSetup e).clock = s.clock := rfl
@[simp] theorem State.setSetup_restartArmed (e : Setup) : (s.setSetup e).restartArmed = s.restartArmed := rfl
@[simp] theorem State.setSetup_write (e : Setup) : (s.setSetup e).write = s.write := rfl
@[simp] theorem State.setSetup_store (e : Setup) : (s.setSetup e).store = s.store := rfl
@[simp] theorem State.setSetup_shortSpells (e : Setup) : (s.setSetup e).shortSpells = s.shortSpells := rfl
@[simp] theorem State.setSetup_inside (e : Setup) : (s.setSetup e).inside = s.inside := rfl
@[simp] theorem State.setSetup_pending (e : Setup) : (s.setSetup e).pending = s.pending := rfl

/-! ### setChannelEntry -/

@[simp] theorem State.setChannelEntry_phase (c : Channel) (e : ChannelEntry) : (s.setChannelEntry c e).phase = s.phase := rfl
@[simp] theorem State.setChannelEntry_stationAddress (c : Channel) (e : ChannelEntry) : (s.setChannelEntry c e).stationAddress = s.stationAddress := rfl
@[simp] theorem State.setChannelEntry_setup (c : Channel) (e : ChannelEntry) : (s.setChannelEntry c e).setup = s.setup := rfl
@[simp] theorem State.setChannelEntry_channelEntries (c : Channel) (e : ChannelEntry) : (s.setChannelEntry c e).channelEntries = s.channelEntries.set c e := rfl
@[simp] theorem State.setChannelEntry_xfEntries (c : Channel) (e : ChannelEntry) : (s.setChannelEntry c e).xfEntries = s.xfEntries := rfl
@[simp] theorem State.setChannelEntry_channels (c : Channel) (e : ChannelEntry) : (s.setChannelEntry c e).channels = s.channels := rfl
@[simp] theorem State.setChannelEntry_xfs (c : Channel) (e : ChannelEntry) : (s.setChannelEntry c e).xfs = s.xfs := rfl
@[simp] theorem State.setChannelEntry_memberMap (c : Channel) (e : ChannelEntry) : (s.setChannelEntry c e).memberMap = s.memberMap := rfl
@[simp] theorem State.setChannelEntry_station (c : Channel) (e : ChannelEntry) : (s.setChannelEntry c e).station = s.station := rfl
@[simp] theorem State.setChannelEntry_alarmOut (c : Channel) (e : ChannelEntry) : (s.setChannelEntry c e).alarmOut = s.alarmOut := rfl
@[simp] theorem State.setChannelEntry_stormOut (c : Channel) (e : ChannelEntry) : (s.setChannelEntry c e).stormOut = s.stormOut := rfl
@[simp] theorem State.setChannelEntry_queue (c : Channel) (e : ChannelEntry) : (s.setChannelEntry c e).queue = s.queue := rfl
@[simp] theorem State.setChannelEntry_recorder (c : Channel) (e : ChannelEntry) : (s.setChannelEntry c e).recorder = s.recorder := rfl
@[simp] theorem State.setChannelEntry_banks (c : Channel) (e : ChannelEntry) : (s.setChannelEntry c e).banks = s.banks := rfl
@[simp] theorem State.setChannelEntry_frames (c : Channel) (e : ChannelEntry) : (s.setChannelEntry c e).frames = s.frames := rfl
@[simp] theorem State.setChannelEntry_clock (c : Channel) (e : ChannelEntry) : (s.setChannelEntry c e).clock = s.clock := rfl
@[simp] theorem State.setChannelEntry_restartArmed (c : Channel) (e : ChannelEntry) : (s.setChannelEntry c e).restartArmed = s.restartArmed := rfl
@[simp] theorem State.setChannelEntry_write (c : Channel) (e : ChannelEntry) : (s.setChannelEntry c e).write = s.write := rfl
@[simp] theorem State.setChannelEntry_store (c : Channel) (e : ChannelEntry) : (s.setChannelEntry c e).store = s.store := rfl
@[simp] theorem State.setChannelEntry_shortSpells (c : Channel) (e : ChannelEntry) : (s.setChannelEntry c e).shortSpells = s.shortSpells := rfl
@[simp] theorem State.setChannelEntry_inside (c : Channel) (e : ChannelEntry) : (s.setChannelEntry c e).inside = s.inside := rfl
@[simp] theorem State.setChannelEntry_pending (c : Channel) (e : ChannelEntry) : (s.setChannelEntry c e).pending = s.pending := rfl

/-! ### setXfEntry -/

@[simp] theorem State.setXfEntry_phase (t : Xf) (e : XfEntry) : (s.setXfEntry t e).phase = s.phase := rfl
@[simp] theorem State.setXfEntry_stationAddress (t : Xf) (e : XfEntry) : (s.setXfEntry t e).stationAddress = s.stationAddress := rfl
@[simp] theorem State.setXfEntry_setup (t : Xf) (e : XfEntry) : (s.setXfEntry t e).setup = s.setup := rfl
@[simp] theorem State.setXfEntry_channelEntries (t : Xf) (e : XfEntry) : (s.setXfEntry t e).channelEntries = s.channelEntries := rfl
@[simp] theorem State.setXfEntry_xfEntries (t : Xf) (e : XfEntry) : (s.setXfEntry t e).xfEntries = s.xfEntries.set t e := rfl
@[simp] theorem State.setXfEntry_channels (t : Xf) (e : XfEntry) : (s.setXfEntry t e).channels = s.channels := rfl
@[simp] theorem State.setXfEntry_xfs (t : Xf) (e : XfEntry) : (s.setXfEntry t e).xfs = s.xfs := rfl
@[simp] theorem State.setXfEntry_memberMap (t : Xf) (e : XfEntry) : (s.setXfEntry t e).memberMap = s.memberMap := rfl
@[simp] theorem State.setXfEntry_station (t : Xf) (e : XfEntry) : (s.setXfEntry t e).station = s.station := rfl
@[simp] theorem State.setXfEntry_alarmOut (t : Xf) (e : XfEntry) : (s.setXfEntry t e).alarmOut = s.alarmOut := rfl
@[simp] theorem State.setXfEntry_stormOut (t : Xf) (e : XfEntry) : (s.setXfEntry t e).stormOut = s.stormOut := rfl
@[simp] theorem State.setXfEntry_queue (t : Xf) (e : XfEntry) : (s.setXfEntry t e).queue = s.queue := rfl
@[simp] theorem State.setXfEntry_recorder (t : Xf) (e : XfEntry) : (s.setXfEntry t e).recorder = s.recorder := rfl
@[simp] theorem State.setXfEntry_banks (t : Xf) (e : XfEntry) : (s.setXfEntry t e).banks = s.banks := rfl
@[simp] theorem State.setXfEntry_frames (t : Xf) (e : XfEntry) : (s.setXfEntry t e).frames = s.frames := rfl
@[simp] theorem State.setXfEntry_clock (t : Xf) (e : XfEntry) : (s.setXfEntry t e).clock = s.clock := rfl
@[simp] theorem State.setXfEntry_restartArmed (t : Xf) (e : XfEntry) : (s.setXfEntry t e).restartArmed = s.restartArmed := rfl
@[simp] theorem State.setXfEntry_write (t : Xf) (e : XfEntry) : (s.setXfEntry t e).write = s.write := rfl
@[simp] theorem State.setXfEntry_store (t : Xf) (e : XfEntry) : (s.setXfEntry t e).store = s.store := rfl
@[simp] theorem State.setXfEntry_shortSpells (t : Xf) (e : XfEntry) : (s.setXfEntry t e).shortSpells = s.shortSpells := rfl
@[simp] theorem State.setXfEntry_inside (t : Xf) (e : XfEntry) : (s.setXfEntry t e).inside = s.inside := rfl
@[simp] theorem State.setXfEntry_pending (t : Xf) (e : XfEntry) : (s.setXfEntry t e).pending = s.pending := rfl

/-! ### beginWalk -/

@[simp] theorem State.beginWalk_phase : s.beginWalk.phase = s.phase := rfl
@[simp] theorem State.beginWalk_stationAddress : s.beginWalk.stationAddress = s.stationAddress := rfl
@[simp] theorem State.beginWalk_setup : s.beginWalk.setup = s.setup := rfl
@[simp] theorem State.beginWalk_channelEntries : s.beginWalk.channelEntries = s.channelEntries := rfl
@[simp] theorem State.beginWalk_xfEntries : s.beginWalk.xfEntries = s.xfEntries := rfl
@[simp] theorem State.beginWalk_channels : s.beginWalk.channels = s.channels := rfl
@[simp] theorem State.beginWalk_xfs : s.beginWalk.xfs = s.xfs := rfl
@[simp] theorem State.beginWalk_memberMap : s.beginWalk.memberMap = s.memberMap := rfl
@[simp] theorem State.beginWalk_station : s.beginWalk.station = s.station := rfl
@[simp] theorem State.beginWalk_alarmOut : s.beginWalk.alarmOut = s.alarmOut := rfl
@[simp] theorem State.beginWalk_stormOut : s.beginWalk.stormOut = s.stormOut := rfl
@[simp] theorem State.beginWalk_queue : s.beginWalk.queue = s.queue := rfl
@[simp] theorem State.beginWalk_recorder : s.beginWalk.recorder = s.recorder := rfl
@[simp] theorem State.beginWalk_banks : s.beginWalk.banks = s.banks := rfl
@[simp] theorem State.beginWalk_frames : s.beginWalk.frames = s.frames := rfl
@[simp] theorem State.beginWalk_clock : s.beginWalk.clock = s.clock := rfl
@[simp] theorem State.beginWalk_restartArmed : s.beginWalk.restartArmed = s.restartArmed := rfl
@[simp] theorem State.beginWalk_write : s.beginWalk.write = s.write := rfl
@[simp] theorem State.beginWalk_store : s.beginWalk.store = s.store := rfl
@[simp] theorem State.beginWalk_shortSpells : s.beginWalk.shortSpells = s.shortSpells := rfl
@[simp] theorem State.beginWalk_inside : s.beginWalk.inside = [] := rfl
@[simp] theorem State.beginWalk_pending : s.beginWalk.pending = s.pending := rfl

/-! ### What a table reads after an update of one place -/

theorem State.setChannel_channel (i j : Channel) (r : ChannelRec) :
    (s.setChannel i r).channel j = if i = j then r else s.channel j := by
  simp [State.setChannel, State.channel, Vector.getElem_set, Fin.ext_iff]

@[simp] theorem State.setChannel_channel_same (i : Channel) (r : ChannelRec) : (s.setChannel i r).channel i = r := by
  simp [State.setChannel_channel]

theorem State.setChannel_channel_other (i j : Channel) (r : ChannelRec) (h : j ≠ i) : (s.setChannel i r).channel j = s.channel j := by
  simp [State.setChannel_channel, Ne.symm h]

theorem State.setXf_xf (i j : Xf) (r : XfRec) :
    (s.setXf i r).xf j = if i = j then r else s.xf j := by
  simp [State.setXf, State.xf, Vector.getElem_set, Fin.ext_iff]

@[simp] theorem State.setXf_xf_same (i : Xf) (r : XfRec) : (s.setXf i r).xf i = r := by
  simp [State.setXf_xf]

theorem State.setXf_xf_other (i j : Xf) (r : XfRec) (h : j ≠ i) : (s.setXf i r).xf j = s.xf j := by
  simp [State.setXf_xf, Ne.symm h]

theorem State.setChannelEntry_channelEntry (i j : Channel) (r : ChannelEntry) :
    (s.setChannelEntry i r).channelEntry j = if i = j then r else s.channelEntry j := by
  simp [State.setChannelEntry, State.channelEntry, Vector.getElem_set, Fin.ext_iff]

@[simp] theorem State.setChannelEntry_channelEntry_same (i : Channel) (r : ChannelEntry) : (s.setChannelEntry i r).channelEntry i = r := by
  simp [State.setChannelEntry_channelEntry]

theorem State.setChannelEntry_channelEntry_other (i j : Channel) (r : ChannelEntry) (h : j ≠ i) : (s.setChannelEntry i r).channelEntry j = s.channelEntry j := by
  simp [State.setChannelEntry_channelEntry, Ne.symm h]

theorem State.setXfEntry_xfEntry (i j : Xf) (r : XfEntry) :
    (s.setXfEntry i r).xfEntry j = if i = j then r else s.xfEntry j := by
  simp [State.setXfEntry, State.xfEntry, Vector.getElem_set, Fin.ext_iff]

@[simp] theorem State.setXfEntry_xfEntry_same (i : Xf) (r : XfEntry) : (s.setXfEntry i r).xfEntry i = r := by
  simp [State.setXfEntry_xfEntry]

theorem State.setXfEntry_xfEntry_other (i j : Xf) (r : XfEntry) (h : j ≠ i) : (s.setXfEntry i r).xfEntry j = s.xfEntry j := by
  simp [State.setXfEntry_xfEntry, Ne.symm h]

/-- Bank numbers tell banks apart. -/
theorem BankId.index_inj {a b : BankId} : a.index = b.index ↔ a = b := by
  cases a <;> cases b <;> decide

theorem State.setBank_bank (a b : BankId) (r : BankRec) : (s.setBank a r).bank b = if a = b then r else s.bank b := by
  simp only [State.setBank, State.bank, Fin.getElem_fin, Vector.getElem_set, ← Fin.ext_iff, BankId.index_inj]

@[simp] theorem State.setBank_bank_same (b : BankId) (r : BankRec) : (s.setBank b r).bank b = r := by
  simp [State.setBank_bank]

theorem State.setBank_bank_other (a b : BankId) (r : BankRec) (h : b ≠ a) : (s.setBank a r).bank b = s.bank b := by
  simp [State.setBank_bank, Ne.symm h]

/-! ### Accessors that an update of another part leaves alone -/

@[simp] theorem State.setChannel_xf (c : Channel) (r : ChannelRec) (u : Xf) : (s.setChannel c r).xf u = s.xf u := rfl
@[simp] theorem State.setChannel_channelEntry (c : Channel) (r : ChannelRec) (d : Channel) : (s.setChannel c r).channelEntry d = s.channelEntry d := rfl
@[simp] theorem State.setChannel_xfEntry (c : Channel) (r : ChannelRec) (u : Xf) : (s.setChannel c r).xfEntry u = s.xfEntry u := rfl
@[simp] theorem State.setChannel_bank (c : Channel) (r : ChannelRec) (k : BankId) : (s.setChannel c r).bank k = s.bank k := rfl
@[simp] theorem State.setXf_channel (t : Xf) (r : XfRec) (d : Channel) : (s.setXf t r).channel d = s.channel d := rfl
@[simp] theorem State.setXf_channelEntry (t : Xf) (r : XfRec) (d : Channel) : (s.setXf t r).channelEntry d = s.channelEntry d := rfl
@[simp] theorem State.setXf_xfEntry (t : Xf) (r : XfRec) (u : Xf) : (s.setXf t r).xfEntry u = s.xfEntry u := rfl
@[simp] theorem State.setXf_bank (t : Xf) (r : XfRec) (k : BankId) : (s.setXf t r).bank k = s.bank k := rfl
@[simp] theorem State.setStation_channel (r : StationRec) (d : Channel) : (s.setStation r).channel d = s.channel d := rfl
@[simp] theorem State.setStation_xf (r : StationRec) (u : Xf) : (s.setStation r).xf u = s.xf u := rfl
@[simp] theorem State.setStation_channelEntry (r : StationRec) (d : Channel) : (s.setStation r).channelEntry d = s.channelEntry d := rfl
@[simp] theorem State.setStation_xfEntry (r : StationRec) (u : Xf) : (s.setStation r).xfEntry u = s.xfEntry u := rfl
@[simp] theorem State.setStation_bank (r : StationRec) (k : BankId) : (s.setStation r).bank k = s.bank k := rfl
@[simp] theorem State.setQueue_channel (q : EventQueue) (d : Channel) : (s.setQueue q).channel d = s.channel d := rfl
@[simp] theorem State.setQueue_xf (q : EventQueue) (u : Xf) : (s.setQueue q).xf u = s.xf u := rfl
@[simp] theorem State.setQueue_channelEntry (q : EventQueue) (d : Channel) : (s.setQueue q).channelEntry d = s.channelEntry d := rfl
@[simp] theorem State.setQueue_xfEntry (q : EventQueue) (u : Xf) : (s.setQueue q).xfEntry u = s.xfEntry u := rfl
@[simp] theorem State.setQueue_bank (q : EventQueue) (k : BankId) : (s.setQueue q).bank k = s.bank k := rfl
@[simp] theorem State.setRecorder_channel (r : Recorder) (d : Channel) : (s.setRecorder r).channel d = s.channel d := rfl
@[simp] theorem State.setRecorder_xf (r : Recorder) (u : Xf) : (s.setRecorder r).xf u = s.xf u := rfl
@[simp] theorem State.setRecorder_channelEntry (r : Recorder) (d : Channel) : (s.setRecorder r).channelEntry d = s.channelEntry d := rfl
@[simp] theorem State.setRecorder_xfEntry (r : Recorder) (u : Xf) : (s.setRecorder r).xfEntry u = s.xfEntry u := rfl
@[simp] theorem State.setRecorder_bank (r : Recorder) (k : BankId) : (s.setRecorder r).bank k = s.bank k := rfl
@[simp] theorem State.setBank_channel (b : BankId) (r : BankRec) (d : Channel) : (s.setBank b r).channel d = s.channel d := rfl
@[simp] theorem State.setBank_xf (b : BankId) (r : BankRec) (u : Xf) : (s.setBank b r).xf u = s.xf u := rfl
@[simp] theorem State.setBank_channelEntry (b : BankId) (r : BankRec) (d : Channel) : (s.setBank b r).channelEntry d = s.channelEntry d := rfl
@[simp] theorem State.setBank_xfEntry (b : BankId) (r : BankRec) (u : Xf) : (s.setBank b r).xfEntry u = s.xfEntry u := rfl
@[simp] theorem State.setFrames_channel (f : FrameHandler) (d : Channel) : (s.setFrames f).channel d = s.channel d := rfl
@[simp] theorem State.setFrames_xf (f : FrameHandler) (u : Xf) : (s.setFrames f).xf u = s.xf u := rfl
@[simp] theorem State.setFrames_channelEntry (f : FrameHandler) (d : Channel) : (s.setFrames f).channelEntry d = s.channelEntry d := rfl
@[simp] theorem State.setFrames_xfEntry (f : FrameHandler) (u : Xf) : (s.setFrames f).xfEntry u = s.xfEntry u := rfl
@[simp] theorem State.setFrames_bank (f : FrameHandler) (k : BankId) : (s.setFrames f).bank k = s.bank k := rfl
@[simp] theorem State.setAlarmOut_channel (b : Bool) (d : Channel) : (s.setAlarmOut b).channel d = s.channel d := rfl
@[simp] theorem State.setAlarmOut_xf (b : Bool) (u : Xf) : (s.setAlarmOut b).xf u = s.xf u := rfl
@[simp] theorem State.setAlarmOut_channelEntry (b : Bool) (d : Channel) : (s.setAlarmOut b).channelEntry d = s.channelEntry d := rfl
@[simp] theorem State.setAlarmOut_xfEntry (b : Bool) (u : Xf) : (s.setAlarmOut b).xfEntry u = s.xfEntry u := rfl
@[simp] theorem State.setAlarmOut_bank (b : Bool) (k : BankId) : (s.setAlarmOut b).bank k = s.bank k := rfl
@[simp] theorem State.setStormOut_channel (b : Bool) (d : Channel) : (s.setStormOut b).channel d = s.channel d := rfl
@[simp] theorem State.setStormOut_xf (b : Bool) (u : Xf) : (s.setStormOut b).xf u = s.xf u := rfl
@[simp] theorem State.setStormOut_channelEntry (b : Bool) (d : Channel) : (s.setStormOut b).channelEntry d = s.channelEntry d := rfl
@[simp] theorem State.setStormOut_xfEntry (b : Bool) (u : Xf) : (s.setStormOut b).xfEntry u = s.xfEntry u := rfl
@[simp] theorem State.setStormOut_bank (b : Bool) (k : BankId) : (s.setStormOut b).bank k = s.bank k := rfl
@[simp] theorem State.setWrite_channel (w : Option StoreWrite) (d : Channel) : (s.setWrite w).channel d = s.channel d := rfl
@[simp] theorem State.setWrite_xf (w : Option StoreWrite) (u : Xf) : (s.setWrite w).xf u = s.xf u := rfl
@[simp] theorem State.setWrite_channelEntry (w : Option StoreWrite) (d : Channel) : (s.setWrite w).channelEntry d = s.channelEntry d := rfl
@[simp] theorem State.setWrite_xfEntry (w : Option StoreWrite) (u : Xf) : (s.setWrite w).xfEntry u = s.xfEntry u := rfl
@[simp] theorem State.setWrite_bank (w : Option StoreWrite) (k : BankId) : (s.setWrite w).bank k = s.bank k := rfl
@[simp] theorem State.setSetup_channel (e : Setup) (d : Channel) : (s.setSetup e).channel d = s.channel d := rfl
@[simp] theorem State.setSetup_xf (e : Setup) (u : Xf) : (s.setSetup e).xf u = s.xf u := rfl
@[simp] theorem State.setSetup_channelEntry (e : Setup) (d : Channel) : (s.setSetup e).channelEntry d = s.channelEntry d := rfl
@[simp] theorem State.setSetup_xfEntry (e : Setup) (u : Xf) : (s.setSetup e).xfEntry u = s.xfEntry u := rfl
@[simp] theorem State.setSetup_bank (e : Setup) (k : BankId) : (s.setSetup e).bank k = s.bank k := rfl
@[simp] theorem State.setChannelEntry_channel (c : Channel) (e : ChannelEntry) (d : Channel) : (s.setChannelEntry c e).channel d = s.channel d := rfl
@[simp] theorem State.setChannelEntry_xf (c : Channel) (e : ChannelEntry) (u : Xf) : (s.setChannelEntry c e).xf u = s.xf u := rfl
@[simp] theorem State.setChannelEntry_xfEntry (c : Channel) (e : ChannelEntry) (u : Xf) : (s.setChannelEntry c e).xfEntry u = s.xfEntry u := rfl
@[simp] theorem State.setChannelEntry_bank (c : Channel) (e : ChannelEntry) (k : BankId) : (s.setChannelEntry c e).bank k = s.bank k := rfl
@[simp] theorem State.setXfEntry_channel (t : Xf) (e : XfEntry) (d : Channel) : (s.setXfEntry t e).channel d = s.channel d := rfl
@[simp] theorem State.setXfEntry_xf (t : Xf) (e : XfEntry) (u : Xf) : (s.setXfEntry t e).xf u = s.xf u := rfl
@[simp] theorem State.setXfEntry_channelEntry (t : Xf) (e : XfEntry) (d : Channel) : (s.setXfEntry t e).channelEntry d = s.channelEntry d := rfl
@[simp] theorem State.setXfEntry_bank (t : Xf) (e : XfEntry) (k : BankId) : (s.setXfEntry t e).bank k = s.bank k := rfl

theorem State.mapChannel_eq (c : Channel) (f : ChannelRec → ChannelRec) :
    s.mapChannel c f = s.setChannel c (f (s.channel c)) := rfl

theorem State.mapXf_eq (t : Xf) (f : XfRec → XfRec) : s.mapXf t f = s.setXf t (f (s.xf t)) := rfl

/-! ### Tables built from a function -/

@[simp] theorem tabulate_get {n : Nat} {α : Type} (f : Fin n → α) (i : Fin n) : (tabulate f)[i] = f i := by
  simp [tabulate]

/-! ### Records put back and records changed twice -/

theorem State.setXf_self (t : Xf) : s.setXf t (s.xf t) = s := by
  simp [State.setXf, State.xf]

theorem State.setChannel_self (c : Channel) : s.setChannel c (s.channel c) = s := by
  simp [State.setChannel, State.channel]

theorem State.setXf_setXf (t : Xf) (q r : XfRec) : (s.setXf t q).setXf t r = s.setXf t r := by
  simp [State.setXf]

theorem State.setChannel_setChannel (c : Channel) (q r : ChannelRec) : (s.setChannel c q).setChannel c r = s.setChannel c r := by
  simp [State.setChannel]

theorem State.mapXf_mapXf (t : Xf) (f g : XfRec → XfRec) : (s.mapXf t f).mapXf t g = s.mapXf t (fun r => g (f r)) := by
  simp [State.mapXf, State.setXf_setXf]

theorem State.mapChannel_mapChannel (c : Channel) (f g : ChannelRec → ChannelRec) :
    (s.mapChannel c f).mapChannel c g = s.mapChannel c (fun r => g (f r)) := by
  simp [State.mapChannel, State.setChannel_setChannel]

end Sys2Proof.Machine
end

