-- ==== Sys2Proof/Laws/Ops.lean ====
section
/-! SUPPORT. One lemma for each shared operation that says once what it can do: the event queue's taking and its walk,
the banks, the output lines, the storm monitor, the recorder and the arbiter. -/

namespace Sys2Proof.Machine

/-! ### Event queue (R115, R116, R120) -/

/-- The keys after a change are the keys before it, with the change's own key. -/
theorem takeInto_keys (now : Word32) (key : EventKey) (f t : Nat) (rs : List EventRec) :
    (takeInto now key f t rs).map EventRec.key =
      if key ∈ rs.map EventRec.key then rs.map EventRec.key else rs.map EventRec.key ++ [key] := by
  induction rs with
  | nil => rfl
  | cons r rs ih =>
    by_cases h : r.key = key
    · subst h
      simp [takeInto, foldRecord]
    · simp only [takeInto, if_neg h, List.map_cons, ih, List.mem_cons, Ne.symm h, false_or]
      split <;> rfl

/-- Every record after a change is one of before, one of before with the change folded in, or the new record. -/
theorem takeInto_mem (now : Word32) (key : EventKey) (f t : Nat) (rs : List EventRec) :
    ∀ r ∈ takeInto now key f t rs, r ∈ rs ∨ (∃ q ∈ rs, q.key = key ∧ r = foldRecord now f t q) ∨
      r = newRecord now key f t := by
  induction rs with
  | nil => simp [takeInto]
  | cons q rs ih =>
    intro r hr
    by_cases h : q.key = key
    · rw [takeInto, if_pos h] at hr
      rcases List.mem_cons.1 hr with rfl | hr
      · exact .inr (.inl ⟨q, by simp, h, rfl⟩)
      · exact .inl (by simp [hr])
    · rw [takeInto, if_neg h] at hr
      rcases List.mem_cons.1 hr with rfl | hr
      · exact .inl (by simp)
      · rcases ih r hr with h1 | ⟨p, hp, hk, he⟩ | h3
        · exact .inl (by simp [h1])
        · exact .inr (.inl ⟨p, by simp [hp], hk, he⟩)
        · exact .inr (.inr h3)

/-- A change touches the event queue alone. -/
theorem takeChange_eq (key : EventKey) (f t : Nat) (s : State) :
    takeChange key f t s = { s with queue := (takeChange key f t s).queue } := rfl

/-- The walk of READ EVENTS takes the first `n` eligible records and leaves the others in their order. -/
theorem selectEvents_spec (reportFloor n : Nat) (rs : List EventRec) :
    let eligible := fun r : EventRec => decide (reportFloor ≤ r.priority)
    (selectEvents reportFloor n rs).1 = (rs.filter eligible).take n ∧
    (selectEvents reportFloor n rs).2.Sublist rs ∧
    (selectEvents reportFloor n rs).2.filter eligible = (rs.filter eligible).drop n ∧
    (selectEvents reportFloor n rs).2.filter (fun r => !eligible r) = rs.filter (fun r => !eligible r) := by
  induction rs generalizing n with
  | nil => cases n <;> simp [selectEvents]
  | cons r rs ih =>
    dsimp only at ih ⊢
    by_cases hp : reportFloor ≤ r.priority
    · cases n with
      | zero =>
        obtain ⟨a, b, c, d⟩ := ih 0
        simp [selectEvents, hp] at a b c d ⊢
        exact ⟨a, b, c, d⟩
      | succ n =>
        obtain ⟨a, b, c, d⟩ := ih n
        simp [selectEvents, hp] at a b c d ⊢
        exact ⟨a, b.cons _, c, d⟩
    · obtain ⟨a, b, c, d⟩ := ih n
      simp [selectEvents, hp] at a b c d ⊢
      exact ⟨a, b, c, d⟩

/-! ### Banks (R139 to R144) -/

/-- A report touches the banks and the event queue alone. -/
theorem report_eq (b : BankId) (code : ErrorCode) (subject : Byte) (s : State) :
    report b code subject s =
      { s with banks := (report b code subject s).banks, queue := (report b code subject s).queue } := by
  unfold report replaceBank
  split
  · split <;> rfl
  · rfl

/-- The replaced bank is the only one that changes. -/
theorem replaceBank_banks (b : BankId) (r : BankRec) (s : State) :
    (replaceBank b r s).banks = (s.setBank b r).banks := by
  unfold replaceBank
  split <;> rfl

/-- A bank after a report: it has taken the report where the phase lets it; every other bank is as before. -/
theorem report_bank (b : BankId) (code : ErrorCode) (subject : Byte) (s : State) (o : BankId) :
    (report b code subject s).bank o =
      if b = o ∧ s.bankTakes b = true then (s.bank b).take s.clock.uptime code subject else s.bank o := by
  unfold report
  by_cases h : s.bankTakes b = true
  · have hr : ∀ r : BankRec, (replaceBank b r s).bank o = (s.setBank b r).bank o := fun r => by
      unfold State.bank
      rw [replaceBank_banks]
    rw [if_pos h, hr, State.setBank_bank]
    simp [h]
  · simp [h]

/-! ### Storm monitor (chapter 5) -/

/-- A station change touches the station's state, STORM OUT and the event queue alone. -/
theorem enterStation_eq (new : StationState) (s : State) :
    enterStation new s = { s with station := { s.station with state := new }
                                  stormOut := (enterStation new s).stormOut
                                  queue := (enterStation new s).queue } := by
  unfold enterStation
  split
  · next h => rw [← h]
  · rfl

/-- The quorum's forming touches the station, STORM OUT and the event queue alone. -/
theorem formQuorum_eq (s : State) :
    formQuorum s = { s with station := (formQuorum s).station, stormOut := (formQuorum s).stormOut
                            queue := (formQuorum s).queue } := by
  unfold formQuorum quorumBecomesMet
  dsimp only
  split
  · rfl
  split
  · split
    · rw [enterStation_eq]; rfl
    · rw [enterStation_eq]; rfl
    · rfl
  · rfl

/-- After the quorum is formed, quorum met is the quorum condition of the live Q and the alert count. -/
theorem formQuorum_met (s : State) :
    (formQuorum s).station.quorumMet = quorumCondition s.setup.quorum s.station.alertCount ∧
    (formQuorum s).station.alertCount = s.station.alertCount := by
  unfold formQuorum quorumBecomesMet
  dsimp only
  split
  · next h => exact ⟨h.symm, rfl⟩
  split
  · next h =>
    rw [h]
    split
    · rw [enterStation_eq]; exact ⟨rfl, rfl⟩
    · rw [enterStation_eq]; exact ⟨rfl, rfl⟩
    · exact ⟨rfl, rfl⟩
  · next h =>
    have hf : quorumCondition s.setup.quorum s.station.alertCount = false := by simpa using h
    rw [hf]
    exact ⟨rfl, rfl⟩

/-- A level notice touches the station, STORM OUT and the event queue alone. -/
theorem levelNotice_eq (old new : Level) (s : State) :
    levelNotice old new s = { s with station := (levelNotice old new s).station
                                     stormOut := (levelNotice old new s).stormOut
                                     queue := (levelNotice old new s).queue } := by
  unfold levelNotice
  rw [formQuorum_eq]
  rfl

/-- A rate notice touches the station, STORM OUT and the event queue alone. -/
theorem rateNotice_eq (c : Channel) (kind : ChannelKind) (rate : Int) (s : State) :
    rateNotice c kind rate s = { s with station := (rateNotice c kind rate s).station
                                        stormOut := (rateNotice c kind rate s).stormOut
                                        queue := (rateNotice c kind rate s).queue } := by
  unfold rateNotice formNorm judgeNorm judgeCalm judgeWatch judgeStorm
  split
  · split
    · rw [enterStation_eq]; rfl
    split
    · split
      · rw [enterStation_eq]; rfl
      · rfl
    · rfl
  · split
    · rw [enterStation_eq]; rfl
    split <;> rfl
  · split <;> rfl

/-! ### Output lines (R70) -/

/-- The ALARM OUT condition is that an in-service transformer has its flag set. -/
theorem anyAlarming_iff (s : State) :
    s.anyAlarming = true ↔ ∃ t : Xf, (s.xf t).inService = true ∧ (s.xf t).unack = true := by
  simp [State.anyAlarming, XfRec.alarming, State.xf]

/-- A record that asserts the line as the old one did leaves the condition. -/
theorem anyAlarming_setXf (s : State) (t : Xf) (r : XfRec) (h : r.alarming = (s.xf t).alarming) :
    (s.setXf t r).anyAlarming = s.anyAlarming := by
  unfold State.anyAlarming
  congr 1
  funext o
  show ((s.setXf t r).xf o).alarming = (s.xf o).alarming
  rw [State.setXf_xf]
  split
  · next ho => rw [h, ho]
  · rfl

/-! ### Arbiter (R164) -/

/-- An own frame waits exactly when a response is READY or a status frame stands in its slot. -/
theorem FrameHandler.ownWaiting_iff (f : FrameHandler) :
    f.ownWaiting = true ↔ (∃ frame, f.response = .ready frame) ∨ f.status ≠ none := by
  unfold ownWaiting
  cases f.response <;> cases f.status <;> simp

/-- A transmitter that is sending keeps its frame; a decision changes nothing else. -/
theorem FrameHandler.arbitrate_busy (f : FrameHandler) (h : f.txB.isSome = true) : f.arbitrate = f := by
  unfold arbitrate
  cases ht : f.txB with
  | none => simp [ht] at h
  | some _ => rfl

/-- After a decision the transmitter sends, or nothing waits for it. -/
theorem FrameHandler.arbitrate_idle (f : FrameHandler) (h : f.arbitrate.txB = none) :
    f.arbitrate = f ∧ f.aToB = [] ∧ f.ownWaiting = false := by
  unfold arbitrate at h ⊢
  cases ht : f.txB with
  | some _ => simp [ht] at h
  | none =>
    simp only [ht] at h ⊢
    by_cases ho : f.ownTurn = true
    · rw [if_pos ho] at h
      exfalso
      have hw : f.ownWaiting = true := by
        unfold ownTurn at ho
        simp only [Bool.and_eq_true] at ho
        exact ho.1
      rw [ownWaiting_iff] at hw
      unfold startOwn at h
      cases hr : f.response <;> cases hs : f.status <;> simp_all
    · rw [if_neg ho] at h ⊢
      unfold startForward at h ⊢
      cases hq : f.aToB with
      | cons _ _ => simp [hq] at h
      | nil =>
        refine ⟨rfl, rfl, ?_⟩
        simpa [ownTurn, hq] using ho

/-! ### Timers -/

@[simp] theorem runTimers_channel (n : Nat) (s : State) (c : Channel) :
    (runTimers n s).channel c = (s.channel c).runTimers n := by
  unfold State.channel runTimers
  exact tabulate_get (fun c => (s.channels[c]).runTimers n) c

end Sys2Proof.Machine
end

