-- ==== Sys2Proof/Laws/Evaluator.lean ====
section
/-! SUPPORT. What the evaluator and the thermal unit leave alone, once: work on one transformer touches no channel, no
other transformer, no table and no frame. -/

namespace Sys2Proof.Machine

/-- `t` differs from `s` by work on transformer `x` alone: the channels, the other transformers, the tables, the frame
handler and the clock are as before. -/
def WorksOn (x : Xf) (s t : State) : Prop :=
  t.channels = s.channels ∧ (∀ o : Xf, o ≠ x → t.xf o = s.xf o) ∧ s.SameAround t

namespace WorksOn

variable {x : Xf} {s t u : State}

theorem refl (s : State) : WorksOn x s s :=
  ⟨rfl, fun _ _ => rfl, rfl, rfl, rfl, rfl, rfl, rfl, rfl, rfl, rfl, rfl, rfl, rfl, rfl, rfl⟩

theorem trans (h : WorksOn x s t) (h' : WorksOn x t u) : WorksOn x s u := by
  obtain ⟨a, b, c1, c2, c3, c4, c5, c6, c7, c8, c9, c10, c11, c12, c13, c14⟩ := h
  obtain ⟨a', b', d1, d2, d3, d4, d5, d6, d7, d8, d9, d10, d11, d12, d13, d14⟩ := h'
  exact ⟨a'.trans a, fun o ho => (b' o ho).trans (b o ho), d1.trans c1, d2.trans c2, d3.trans c3, d4.trans c4,
    d5.trans c5, d6.trans c6, d7.trans c7, d8.trans c8, d9.trans c9, d10.trans c10, d11.trans c11, d12.trans c12,
    d13.trans c13, d14.trans c14⟩

theorem setXf (s : State) (r : XfRec) : WorksOn x s (s.setXf x r) :=
  ⟨rfl, fun o ho => by rw [State.setXf_xf, if_neg (Ne.symm ho)],
    rfl, rfl, rfl, rfl, rfl, rfl, rfl, rfl, rfl, rfl, rfl, rfl, rfl, rfl⟩

theorem mapXf (s : State) (f : XfRec → XfRec) : WorksOn x s (s.mapXf x f) := setXf s _

theorem setAlarmOut (s : State) (b : Bool) : WorksOn x s (s.setAlarmOut b) := refl s

theorem setRecorder (s : State) (r : Recorder) : WorksOn x s (s.setRecorder r) := refl s

theorem takeChange (key : EventKey) (f t : Nat) (s : State) : WorksOn x s (takeChange key f t s) := refl s

theorem report (b : BankId) (code : ErrorCode) (subject : Byte) (s : State) :
    WorksOn x s (report b code subject s) := by
  rw [report_eq]
  exact refl s

theorem levelNotice (old new : Level) (s : State) : WorksOn x s (levelNotice old new s) := by
  rw [levelNotice_eq]
  exact refl s

/-! ### Reported level (R63) -/

theorem levelChanged (old new : Level) (s : State) : WorksOn x s (levelChanged x old new s) :=
  ((setAlarmOut s s.anyAlarming).trans (takeChange _ _ _ _)).trans (levelNotice _ _ _)

theorem rederive (s : State) : WorksOn x s (rederive x s) := by
  unfold Machine.rederive
  dsimp only
  split
  · exact refl s
  · exact (mapXf s _).trans (levelChanged _ _ _)

theorem acknowledgeFlag (s : State) : WorksOn x s (acknowledgeFlag x s) := by
  unfold Machine.acknowledgeFlag
  split
  · exact ((mapXf s _).trans (rederive _)).trans (setAlarmOut _ _)
  · exact refl s

/-! ### Second boundary (R81) -/

theorem updateTheta (aSec : Nat) (s : State) : WorksOn x s (updateTheta x aSec s) := by
  unfold Machine.updateTheta
  dsimp only
  split
  · exact (report _ _ _ s).trans (mapXf _ _)
  · exact mapXf s _

theorem updateThermalLevel (s : State) : WorksOn x s (updateThermalLevel x s) := by
  unfold Machine.updateThermalLevel
  dsimp only
  split
  · exact refl s
  · exact (mapXf s _).trans (rederive _)

theorem captureSecond (aSec : Nat) (s : State) : WorksOn x s (captureSecond x aSec s) := by
  unfold Machine.captureSecond
  split
  · exact setRecorder s _
  · exact refl s

theorem thermalBoundary (sum : Nat) (s : State) : WorksOn x s (thermalBoundary x sum s) := by
  unfold Machine.thermalBoundary
  dsimp only
  split
  · exact captureSecond _ s
  · exact ((updateTheta _ s).trans (updateThermalLevel _)).trans (captureSecond _ _)

/-! ### Completion (R43) -/

theorem combine (s : State) : WorksOn x s (combine x s) := by
  unfold Machine.combine
  dsimp only
  split
  · exact mapXf s _
  · exact (report _ _ _ s).trans (mapXf _ _)

theorem evaluate (s : State) : WorksOn x s (evaluate x s) := (mapXf s _).trans (rederive _)

theorem countSecond (s : State) : WorksOn x s (countSecond x s) := by
  unfold Machine.countSecond
  dsimp only
  split
  · exact (mapXf s _).trans (thermalBoundary _ _)
  · exact mapXf s _

theorem complete (s : State) : WorksOn x s (complete x s) :=
  ((((combine s).trans (mapXf _ _)).trans (mapXf _ _)).trans (evaluate _)).trans (countSecond _)

/-! ### Assembly (R36 to R42) -/

theorem completeIfMarked (s : State) : WorksOn x s (completeIfMarked x s) := by
  unfold Machine.completeIfMarked
  split
  · exact complete s
  · exact refl s

theorem openAssembly (j : Slot) (c : Cycle) (s : State) : WorksOn x s (openAssembly x j c s) :=
  (mapXf s _).trans (completeIfMarked _)

theorem reportLateMembers (s : State) : WorksOn x s (reportLateMembers x s) := by
  have key : ∀ (r : XfRec) (is : List Slot) (s : State), WorksOn x s (is.foldl (reportLate x r) s) := by
    intro r is
    induction is with
    | nil => exact refl
    | cons i is ih =>
      intro s
      refine trans ?_ (ih _)
      unfold reportLate
      split
      · exact report _ _ _ s
      · exact refl s
  exact key _ _ s

theorem assemblyArrival (j : Slot) (c : Cycle) (s : State) : WorksOn x s (assemblyArrival x j c s) := by
  unfold Machine.assemblyArrival
  split
  · split
    · exact (mapXf s _).trans (completeIfMarked _)
    split
    · exact ((reportLateMembers s).trans (complete _)).trans (openAssembly _ _ _)
    · exact report _ _ _ s
  · split
    · split
      · exact report _ _ _ s
      · exact openAssembly _ _ s
    · exact openAssembly _ _ s

theorem noticeQuality (s : State) : WorksOn x s (noticeQuality x s) := by
  unfold Machine.noticeQuality
  split
  · exact mapXf s _
  split
  · exact mapXf s _
  · exact refl s

theorem afterShrinkage (s : State) : WorksOn x s (afterShrinkage x s) := by
  unfold Machine.afterShrinkage
  split
  · exact (mapXf s _).trans (report _ _ _ _)
  split
  · exact completeIfMarked s
  · exact refl s

theorem memberNotice (j : Slot) (live : Bool) (s : State) : WorksOn x s (memberNotice x j live s) := by
  have h : WorksOn x s (Machine.noticeQuality x (s.mapXf x (fun r => { r with waitSet := r.waitSet.set j live }))) :=
    (mapXf s _).trans (noticeQuality _)
  unfold Machine.memberNotice
  dsimp only
  split
  · exact h.trans (afterShrinkage _)
  · exact h

end WorksOn

/-! ### The two ways in from conditioning (R24, R32) -/

/-- A block arrival works on the transformer that the member map gives the channel, and on none without one. -/
theorem blockArrival_worksOn (ch : Channel) (c : Cycle) (s : State) :
    (s.memberMap[ch] = none → blockArrival ch c s = s) ∧
    (∀ x j, s.memberMap[ch] = some (x, j) → WorksOn x s (blockArrival ch c s)) := by
  unfold blockArrival
  refine ⟨fun h => by rw [h], fun x j h => ?_⟩
  rw [h]
  dsimp only
  split
  · exact WorksOn.assemblyArrival j c s
  · exact WorksOn.refl s

/-- A state-change notice works on the transformer that the member map gives the channel, and on none without one. -/
theorem channelNotice_worksOn (ch : Channel) (s : State) :
    (s.memberMap[ch] = none → channelNotice ch s = s) ∧
    (∀ x j, s.memberMap[ch] = some (x, j) → WorksOn x s (channelNotice ch s)) := by
  unfold channelNotice
  refine ⟨fun h => by rw [h], fun x j h => ?_⟩
  rw [h]
  dsimp only
  split
  · exact WorksOn.memberNotice j _ s
  · exact WorksOn.refl s

end Sys2Proof.Machine
end

