-- ==== Sys2Proof/Laws/Kept.lean ====
section
/-! SUPPORT. The induction over the shared operations, once: a property of the state that the few primitive updates of
the blocks keep is kept by every operation of the storm monitor, the evaluator, the thermal unit and conditioning, by
request intake and by every command. -/

namespace Sys2Proof.Machine

/-! ### The changes that the blocks hand the event queue (R114) -/

theorem changeAllowed_channel (c : Channel) (f t : Nat) : changeAllowed (.channel c) f t := by
  unfold changeAllowed changePriority
  dsimp only
  split <;> omega

theorem changeAllowed_station (f t : Nat) : changeAllowed .station f t := by
  unfold changeAllowed changePriority
  dsimp only
  split
  · omega
  · split <;> omega

theorem changeAllowed_fault (b : BankId) (f t : Nat) : changeAllowed (.fault b) f t := by
  unfold changeAllowed changePriority
  dsimp only
  split <;> omega

theorem changeAllowed_level (t : Xf) {old new : Level} (h : old ≠ new) :
    changeAllowed (.level t) old.rank new.rank := by
  unfold changeAllowed
  cases old <;> cases new <;> first | exact absurd rfl h | exact ⟨by simp [changePriority, Level.rank, Level.num, levelOffRank], by simp [changePriority, Level.rank, Level.num, levelOffRank]⟩

theorem changeAllowed_placing (t : Xf) : 
    changeAllowed (.level t) levelOffRank Level.quiet.rank := ⟨by simp [changePriority], by simp [changePriority]⟩

theorem changeAllowed_removal (t : Xf) (old : Level) : changeAllowed (.level t) old.rank levelOffRank := by
  unfold changeAllowed
  exact ⟨by simp [changePriority], by simp [changePriority]⟩

/-! ### Properties that the blocks keep -/

/-- The primitive updates by which the storm monitor, the evaluator, the thermal unit and conditioning change the
state, each keeping `P`. A transformer record is replaced by one that asserts ALARM OUT as before, or ALARM OUT is set
again; the station's state changes with STORM OUT. -/
structure KeptByBlocks (P : State → Prop) : Prop where
  setChannel : ∀ s c r, P s → P (s.setChannel c r)
  setXf : ∀ s t r, r.alarming = (s.xf t).alarming → P s → P (s.setXf t r)
  alarm : ∀ s t r, P s → P (refreshAlarmOut (s.setXf t r))
  setStation : ∀ s r, r.state = s.station.state → P s → P (s.setStation r)
  enter : ∀ s new, P s → P ((s.setStation { s.station with state := new }).setStormOut (new == .storm))
  write : ∀ s c, P s → P (s.setRecorder (s.recorder.write c))
  takeChange : ∀ s k f t, changeAllowed k f t → P s → P (takeChange k f t s)
  report : ∀ s b c x, b.takes c = true → P s → P (report b c x s)

namespace KeptByBlocks

variable {P : State → Prop} (h : KeptByBlocks P) {s : State}
include h

theorem mapChannel (c : Channel) (f : ChannelRec → ChannelRec) (hs : P s) : P (s.mapChannel c f) :=
  h.setChannel _ _ _ hs

theorem mapXf (t : Xf) (f : XfRec → XfRec) (hf : ∀ r, (f r).alarming = r.alarming) (hs : P s) : P (s.mapXf t f) :=
  h.setXf _ _ _ (hf _) hs

theorem mapXfAlarm (t : Xf) (f : XfRec → XfRec) (hs : P s) : P (Machine.refreshAlarmOut (s.mapXf t f)) := h.alarm _ _ _ hs

theorem refreshAlarmOut (hs : P s) : P (refreshAlarmOut s) := by
  have := h.alarm s 0 (s.xf 0) hs
  rwa [State.setXf_self] at this

/-! ### Storm monitor -/

theorem startHold (hs : P s) : P (startHold s) := h.setStation _ _ rfl hs
theorem stopHold (hs : P s) : P (stopHold s) := h.setStation _ _ rfl hs
theorem setWatchRun (n : Nat) (hs : P s) : P (setWatchRun n s) := h.setStation _ _ rfl hs

theorem enterStation (new : StationState) (hs : P s) : P (enterStation new s) := by
  unfold Machine.enterStation
  split
  · exact hs
  · exact h.takeChange _ _ _ _ (changeAllowed_station _ _) (h.enter _ _ hs)

theorem judgeNorm (r : Nat) (hs : P s) : P (judgeNorm r s) := by
  unfold Machine.judgeNorm
  split
  · unfold judgeCalm
    split
    · exact h.enterStation _ (h.startHold (h.setWatchRun _ hs))
    split
    · split
      · exact h.enterStation _ (h.startHold (h.setWatchRun _ hs))
      · exact h.setWatchRun _ hs
    · exact h.setWatchRun _ hs
  · unfold judgeWatch
    split
    · exact h.enterStation _ (h.startHold hs)
    split
    · exact h.startHold hs
    · exact hs
  · unfold judgeStorm
    split
    · exact h.startHold hs
    · exact hs

theorem rateNotice (c : Channel) (k : ChannelKind) (r : Int) (hs : P s) : P (rateNotice c k r s) :=
  h.judgeNorm _ (h.setStation _ _ rfl (h.setStation _ _ (by cases k <;> rfl) hs))

theorem withdrawalNotice (c : Channel) (hs : P s) : P (withdrawalNotice c s) := h.setStation _ _ rfl hs

theorem formQuorum (hs : P s) : P (formQuorum s) := by
  unfold Machine.formQuorum
  dsimp only
  split
  · exact hs
  split
  · unfold quorumBecomesMet
    split
    · exact h.enterStation _ (h.stopHold (h.setWatchRun _ (h.setStation _ _ rfl hs)))
    · exact h.enterStation _ (h.stopHold (h.setWatchRun _ (h.setStation _ _ rfl hs)))
    · exact h.stopHold (h.setStation _ _ rfl hs)
  · exact h.startHold (h.setStation _ _ rfl hs)

theorem levelNotice (old new : Level) (hs : P s) : P (levelNotice old new s) := h.formQuorum (h.setStation _ _ rfl hs)

theorem holdExpires (hs : P s) : P (holdExpires s) := by
  unfold Machine.holdExpires
  split
  · split
    · exact hs
    · exact h.enterStation _ (h.stopHold (h.setWatchRun _ hs))
    · exact h.enterStation _ (h.startHold hs)
  · exact hs

theorem stationTakeUp (hs : P s) : P (stationTakeUp s) := h.formQuorum (h.setStation _ _ rfl hs)

/-! ### Evaluator and thermal unit -/

theorem levelChanged (t : Xf) {old new : Level} (hne : old ≠ new) (hs : P (Machine.refreshAlarmOut s)) :
    P (levelChanged t old new s) :=
  h.levelNotice _ _ (h.takeChange _ _ _ _ (changeAllowed_level t hne) hs)

theorem rederive (t : Xf) (hs : P s) : P (rederive t s) := by
  unfold Machine.rederive
  dsimp only
  split
  · exact hs
  · exact h.levelChanged _ ‹_› (h.mapXfAlarm _ _ hs)

theorem acknowledgeFlag (t : Xf) (hs : P s) : P (acknowledgeFlag t s) := by
  unfold Machine.acknowledgeFlag
  split
  · unfold Machine.rederive
    dsimp only
    split
    · exact h.mapXfAlarm _ _ hs
    · refine h.refreshAlarmOut (h.levelChanged _ ‹_› ?_)
      rw [State.mapXf_mapXf]
      exact h.mapXfAlarm _ _ hs
  · exact hs

theorem updateTheta (t : Xf) (a : Nat) (hs : P s) : P (updateTheta t a s) := by
  unfold Machine.updateTheta
  dsimp only
  split
  · exact h.mapXf _ _ (fun _ => rfl) (h.report _ _ _ _ rfl hs)
  · exact h.mapXf _ _ (fun _ => rfl) hs

theorem updateThermalLevel (t : Xf) (hs : P s) : P (updateThermalLevel t s) := by
  unfold Machine.updateThermalLevel
  dsimp only
  split
  · exact hs
  · exact h.rederive _ (h.mapXf _ _ (fun _ => rfl) hs)

theorem captureSecond (t : Xf) (a : Nat) (hs : P s) : P (captureSecond t a s) := by
  unfold Machine.captureSecond
  split
  · exact h.write _ _ hs
  · exact hs

theorem thermalBoundary (t : Xf) (n : Nat) (hs : P s) : P (thermalBoundary t n s) := by
  unfold Machine.thermalBoundary
  dsimp only
  split
  · exact h.captureSecond _ _ hs
  · exact h.captureSecond _ _ (h.updateThermalLevel _ (h.updateTheta _ _ hs))

theorem combine (t : Xf) (hs : P s) : P (combine t s) := by
  unfold Machine.combine
  dsimp only
  split
  · exact h.mapXf _ _ (fun _ => rfl) hs
  · exact h.mapXf _ _ (fun _ => rfl) (h.report _ _ _ _ rfl hs)

theorem judgeQuality (t : Xf) (hs : P s) : P (judgeQuality t s) := by
  unfold Machine.judgeQuality
  dsimp only
  exact h.mapXf _ _ (fun _ => rfl) hs

theorem closeAssembly (t : Xf) (hs : P s) : P (closeAssembly t s) := h.mapXf _ _ (fun _ => rfl) hs

theorem evaluate (t : Xf) (hs : P s) : P (evaluate t s) := by
  unfold Machine.evaluate
  dsimp only
  exact h.rederive _ (h.mapXf _ _ (fun _ => rfl) hs)

theorem countSecond (t : Xf) (hs : P s) : P (countSecond t s) := by
  unfold Machine.countSecond
  dsimp only
  split
  · exact h.thermalBoundary _ _ (h.mapXf _ _ (fun _ => rfl) hs)
  · exact h.mapXf _ _ (fun _ => rfl) hs

theorem complete (t : Xf) (hs : P s) : P (complete t s) :=
  h.countSecond t (h.evaluate t (h.closeAssembly t (h.judgeQuality t (h.combine t hs))))

theorem completeIfMarked (t : Xf) (hs : P s) : P (completeIfMarked t s) := by
  unfold Machine.completeIfMarked
  split
  · exact h.complete _ hs
  · exact hs

theorem openAssembly (t : Xf) (j : Slot) (c : Cycle) (hs : P s) : P (openAssembly t j c s) :=
  h.completeIfMarked _ (h.mapXf _ _ (fun _ => rfl) hs)

theorem reportLateMembers (t : Xf) (hs : P s) : P (reportLateMembers t s) := by
  unfold Machine.reportLateMembers
  generalize s.xf t = r
  induction List.finRange 4 generalizing s with
  | nil => exact hs
  | cons i is ih =>
    refine ih ?_
    unfold reportLate
    split
    · exact h.report _ _ _ _ rfl hs
    · exact hs

theorem assemblyArrival (t : Xf) (j : Slot) (c : Cycle) (hs : P s) : P (assemblyArrival t j c s) := by
  unfold Machine.assemblyArrival
  split
  · split
    · exact h.completeIfMarked _ (h.mapXf _ _ (fun _ => rfl) hs)
    split
    · exact h.openAssembly _ _ _ (h.complete _ (h.reportLateMembers _ hs))
    · exact h.report _ _ _ _ rfl hs
  · split
    · split
      · exact h.report _ _ _ _ rfl hs
      · exact h.openAssembly _ _ _ hs
    · exact h.openAssembly _ _ _ hs

theorem blockArrival (ch : Channel) (c : Cycle) (hs : P s) : P (blockArrival ch c s) := by
  unfold Machine.blockArrival
  split
  · exact hs
  · split
    · exact h.assemblyArrival _ _ _ hs
    · exact hs

theorem noticeQuality (t : Xf) (hs : P s) : P (noticeQuality t s) := by
  unfold Machine.noticeQuality
  split
  · exact h.mapXf _ _ (fun _ => rfl) hs
  split
  · exact h.mapXf _ _ (fun _ => rfl) hs
  · exact hs

theorem afterShrinkage (t : Xf) (hs : P s) : P (afterShrinkage t s) := by
  unfold Machine.afterShrinkage
  split
  · exact h.report _ _ _ _ rfl (h.mapXf _ _ (fun _ => rfl) hs)
  split
  · exact h.completeIfMarked _ hs
  · exact hs

theorem memberNotice (t : Xf) (j : Slot) (live : Bool) (hs : P s) : P (memberNotice t j live s) := by
  unfold Machine.memberNotice
  dsimp only
  split
  · exact h.afterShrinkage _ (h.noticeQuality _ (h.mapXf _ _ (fun _ => rfl) hs))
  · exact h.noticeQuality _ (h.mapXf _ _ (fun _ => rfl) hs)

theorem channelNotice (ch : Channel) (hs : P s) : P (channelNotice ch s) := by
  unfold Machine.channelNotice
  split
  · exact hs
  · split
    · exact h.memberNotice _ _ _ hs
    · exact hs

theorem placeXf (t : Xf) (hs : P s) : P (placeXf t s) :=
  h.levelNotice _ _ (h.takeChange _ _ _ _ (changeAllowed_placing t) (h.alarm _ _ _ hs))

theorem removeXf (t : Xf) (hs : P s) : P (removeXf t s) :=
  h.levelNotice _ _ (h.takeChange _ _ _ _ (changeAllowed_removal t _) (h.alarm _ _ _ hs))

theorem zeroIdleThermal (t : Xf) (hs : P s) : P (zeroIdleThermal t s) := by
  unfold Machine.zeroIdleThermal
  split
  · exact h.mapXf _ _ (fun _ => rfl) hs
  · exact hs

theorem takeUpXf (t : Xf) (hs : P s) : P (takeUpXf t s) := by
  unfold Machine.takeUpXf
  dsimp only
  split
  · exact h.alarm _ _ _ (h.zeroIdleThermal _ hs)
  · exact h.zeroIdleThermal _ hs

/-! ### Conditioning -/

theorem changeChannelState (ch : Channel) (new : ChannelState) (hs : P s) : P (changeChannelState ch new s) :=
  h.channelNotice _ (h.takeChange _ _ _ _ (changeAllowed_channel _ _ _) (h.mapChannel _ _ hs))

theorem clearSecond (ch : Channel) (hs : P s) : P (clearSecond ch s) := by
  unfold Machine.clearSecond
  split
  · exact h.withdrawalNotice _ (h.mapChannel _ _ hs)
  · exact hs

theorem reseed (ch : Channel) (hs : P s) : P (reseed ch s) := h.clearSecond _ (h.mapChannel _ _ hs)

theorem settleAgain (ch : Channel) (hs : P s) : P (settleAgain ch s) := by
  unfold Machine.settleAgain
  split
  · exact h.reseed _ hs
  · exact h.changeChannelState _ _ (h.mapChannel _ _ (h.reseed _ hs))

theorem formRate (ch : Channel) (a b : Int) (hs : P s) : P (formRate ch a b s) := by
  unfold Machine.formRate
  dsimp only
  split
  · exact h.rateNotice _ _ _ (h.mapChannel _ _ hs)
  · exact h.rateNotice _ _ _ (h.mapChannel _ _ (h.report _ _ _ _ rfl hs))

theorem perSecondAdd (ch : Channel) (hs : P s) : P (perSecondAdd ch s) := by
  unfold Machine.perSecondAdd
  dsimp only
  split
  · unfold fieldBoundary
    dsimp only
    split
    · exact h.mapChannel _ _ hs
    · exact h.formRate _ _ _ (h.mapChannel _ _ hs)
  · exact h.mapChannel _ _ hs

theorem fieldOutput (ch : Channel) (hs : P s) : P (fieldOutput ch s) := by
  unfold Machine.fieldOutput
  split
  · exact h.perSecondAdd _ hs
  · exact hs

theorem stageMean (ch : Channel) (samples : List Int) (hs : P s) : P (stageMean ch samples s) := by
  unfold Machine.stageMean
  split
  · exact h.report _ _ _ _ rfl (h.mapChannel _ _ hs)
  split
  · exact h.report _ _ _ _ rfl (h.mapChannel _ _ hs)
  · exact h.mapChannel _ _ hs

theorem stageFilter (ch : Channel) (first : Bool) (hs : P s) : P (stageFilter ch first s) := by
  unfold Machine.stageFilter
  dsimp only
  exact h.mapChannel _ _ hs

theorem stageScale (ch : Channel) (hs : P s) : P (stageScale ch s) := by
  unfold Machine.stageScale
  dsimp only
  split
  · exact h.mapChannel _ _ hs
  · exact h.mapChannel _ _ (h.report _ _ _ _ rfl hs)

theorem gapCycles (ch : Channel) (n : Nat) (hs : P s) : P (gapCycles ch n s) := by
  induction n generalizing s with
  | zero => exact hs
  | succ n ih => exact ih (h.fieldOutput _ (h.stageScale _ (h.stageFilter _ _ hs)))

theorem settleStep (ch : Channel) (hs : P s) : P (settleStep ch s) := by
  unfold Machine.settleStep
  dsimp only
  split
  · exact h.changeChannelState _ _ (h.mapChannel _ _ (h.mapChannel _ _ hs))
  · exact h.mapChannel _ _ hs

theorem countStep (ch : Channel) (first bad : Bool) (hs : P s) : P (countStep ch first bad s) := by
  unfold Machine.countStep
  dsimp only
  have h1 : P (s.mapChannel ch (ChannelRec.counted bad)) := h.mapChannel _ _ hs
  split
  · split
    · exact h.settleStep _ h1
    · exact h1
  · split
    · exact h.changeChannelState _ _ (h.mapChannel _ _ h1)
    · exact h1
  · split
    · exact h.changeChannelState _ _ (h.mapChannel _ _ h1)
    · exact h1
  all_goals exact h1

theorem handOn (ch : Channel) (c : Cycle) (hs : P s) : P (handOn ch c s) := by
  unfold Machine.handOn
  split
  · exact h.blockArrival _ _ hs
  · exact h.fieldOutput _ hs

theorem acceptInput (ch : Channel) (c : Cycle) (hs : P s) : P (acceptInput ch c s) := by
  unfold Machine.acceptInput
  dsimp only
  exact h.mapChannel _ _ hs

theorem processInput (ch : Channel) (first : Bool) (n : Nat) (c : Cycle) (samples : List Int) (hs : P s) :
    P (processInput ch first n c samples s) :=
  h.handOn _ _ (h.countStep _ _ _ (h.stageScale _ (h.stageFilter _ _ (h.stageMean _ _ (h.gapCycles _ _ hs)))))

theorem staleReturn (ch : Channel) (hs : P s) : P (staleReturn ch s) := by
  unfold Machine.staleReturn
  dsimp only
  split
  · exact h.changeChannelState _ _ (h.mapChannel _ _ hs)
  · exact hs

theorem judgedInput (ch : Channel) (c : Cycle) (samples : List Int) (hs : P s) : P (judgedInput ch c samples s) := by
  unfold Machine.judgedInput
  split
  · exact h.processInput _ _ _ _ _ (h.acceptInput _ _ hs)
  · exact h.processInput _ _ _ _ _ (h.acceptInput _ _ (h.staleReturn _ hs))
  · exact h.report _ _ _ _ rfl hs
  · exact h.processInput _ _ _ _ _ (h.acceptInput _ _ (h.settleAgain _ (h.report _ _ _ _ rfl hs)))

theorem takeInput (ch : Channel) (c : Cycle) (samples : List Int) (hs : P s) : P (takeInput ch c samples s) := by
  unfold Machine.takeInput
  split
  · exact hs
  · exact h.processInput _ _ _ _ _ (h.acceptInput _ _ (h.settleAgain _ hs))
  all_goals exact h.judgedInput _ _ _ hs

theorem takeBlockInput (body : List Byte) (i : Nat) (hs : P s) : P (takeBlockInput body s i) := by
  unfold Machine.takeBlockInput
  split
  · exact hs
  · exact h.takeInput _ _ _ hs

theorem examineBlock (body : List Byte) (hs : P s) : P (examineBlock body s) := by
  unfold Machine.examineBlock
  split
  · split
    · generalize List.range (u8 body 4) = is
      clear * - h hs
      induction is generalizing s with
      | nil => exact hs
      | cons i is ih => exact ih (h.takeBlockInput body i hs)
    · exact h.report _ _ _ _ rfl hs
  · exact hs

theorem staleExpires (ch : Channel) (hs : P s) : P (staleExpires ch s) := by
  unfold Machine.staleExpires
  split
  · exact h.changeChannelState _ _ (h.mapChannel _ _ hs)
  · exact hs

theorem lostExpires (ch : Channel) (hs : P s) : P (lostExpires ch s) := by
  unfold Machine.lostExpires
  split
  · exact h.changeChannelState _ _ (h.report _ _ _ _ rfl (h.clearSecond _ (h.mapChannel _ _ hs)))
  · exact hs

theorem placeChannel (ch : Channel) (hs : P s) : P (placeChannel ch s) := by
  unfold Machine.placeChannel
  dsimp only
  exact h.settleAgain _ (h.mapChannel _ _ hs)

theorem removeChannel (ch : Channel) (hs : P s) : P (removeChannel ch s) :=
  h.changeChannelState _ _ (h.mapChannel _ _ (h.clearSecond _ hs))

theorem takeUpChannel (ch : Channel) (hs : P s) : P (takeUpChannel s ch) := by
  unfold Machine.takeUpChannel
  split
  · exact h.setChannel _ _ _ hs
  · exact hs

end KeptByBlocks
end Sys2Proof.Machine
end

