-- ==== Sys2Proof/Laws/KeptByCommands.lean ====
section
/-! SUPPORT. The induction over the commands, once: a property of the state that the primitive updates keep is kept by
every command, whatever its operands and whatever the state. -/

namespace Sys2Proof.Machine

/-- The primitive updates by which the commands change the state, each keeping `P`: those of the blocks, and those of
the request handler, the frame handler, the table store, the starts and the clock. -/
structure KeptByCommands (P : State → Prop) : Prop extends KeptByBlocks P where
  setFrames : ∀ s f, P s → P (s.setFrames f)
  setWrite : ∀ s w, P s → P (s.setWrite w)
  armRestart : ∀ s, P s → P { s with restartArmed := true }
  takeEvents : ∀ s n, P s →
    P (s.setQueue { s.queue with records := (selectEvents s.queue.reportFloor n s.queue.records).2 })
  setFloor : ∀ s n, n ≤ 3 → P s → P (s.setQueue { s.queue with reportFloor := n })
  afterRead : ∀ s start, P s → P (s.setRecorder (s.recorder.afterRead start))
  emptyBank : ∀ s b, P s → P (replaceBank b BankRec.empty s)
  setSetup : ∀ s e, P s → P (s.setSetup e)
  setChannelEntry : ∀ s c e, P s → P (s.setChannelEntry c e)
  setXfEntry : ∀ s t e, P s → P (s.setXfEntry t e)
  setMemberMap : ∀ s m, P s → P { s with memberMap := m }
  setStore : ∀ s st, P s → P { s with store := st, write := none }
  countSpell : ∀ s, P s → P { s with shortSpells := s.shortSpells + 1 }
  discard : ∀ s phase, P s → P (discardWorking phase s)
  warm : ∀ s, P s → P (warmValues s)
  run : ∀ s, P s → P { s with phase := .running, clock := Clock.initial }
  timers : ∀ s n, P s → P (runTimers n s)
  setClock : ∀ s c, P s → P { s with clock := c }
  beginWalk : ∀ s, P s → P s.beginWalk

namespace KeptByCommands

variable {P : State → Prop} (h : KeptByCommands P) {s : State}
include h

/-! ### Frame handler -/

theorem arbiter (hs : P s) : P (arbiter s) := h.setFrames _ _ hs
theorem portA (hs : P s) : P (portA s) := h.setFrames _ _ hs

theorem respond (rq : Request) (r : Result) (d : Nat) (data : List Byte) (hs : P s) : P (respond rq r d data s) :=
  h.setFrames _ _ hs

theorem refuse (rq : Request) (r : Result) (d : Nat) (hs : P s) : P (refuse rq r d s) := h.setFrames _ _ hs
theorem respondDone (rq : Request) (data : List Byte) (hs : P s) : P (respondDone rq data s) := h.setFrames _ _ hs
theorem beginWrite (w : StoreWrite) (hs : P s) : P (beginWrite w s) := h.setWrite _ _ hs

theorem intake (source : Byte) (body : List Byte) (serve : Request → State → State)
    (hserve : ∀ rq s, P s → P (serve rq s)) (hs : P s) : P (intake source body serve s) := by
  unfold Machine.intake
  split
  · exact hs
  · split
    · refine h.arbiter ?_
      unfold takeRequest
      split
      · exact h.refuse _ _ _ (h.setFrames _ _ hs)
      · exact hserve _ _ (h.setFrames _ _ hs)
    all_goals exact h.report _ _ _ _ rfl hs

/-! ### Events -/

theorem buildStatus (hs : P s) : P (buildStatus s) := by
  unfold Machine.buildStatus
  split
  · exact h.report _ _ _ _ rfl (h.setFrames _ _ hs)
  · exact h.setFrames _ _ hs

omit h in
theorem foldl {α : Type} (f : State → α → State) (hf : ∀ s a, P s → P (f s a)) (as : List α) (hs : P s) :
    P (as.foldl f s) := by
  induction as generalizing s with
  | nil => exact hs
  | cons a as ih => exact ih (hf _ _ hs)

theorem forwardFrame (port : Port) (source : Byte) (bytes : List Byte) (hs : P s) :
    P (forwardFrame port source bytes s) := by
  unfold Machine.forwardFrame
  split
  · split
    · exact h.setFrames _ _ (h.setFrames _ _ hs)
    · exact h.report _ _ _ _ rfl hs
  · split
    · exact h.setFrames _ _ (h.setFrames _ _ hs)
    · exact h.report _ _ _ _ rfl hs

theorem placeFrame (request : GoodFrame → State → State) (hr : ∀ f s, P s → P (request f s)) (port : Port)
    (bytes : List Byte) (f : GoodFrame) (hs : P s) : P (placeFrame request port bytes f s) := by
  unfold Machine.placeFrame
  split
  · split
    · exact h.examineBlock _ hs
    split
    · unfold requestArrival
      split
      · exact h.report _ _ _ _ rfl hs
      · exact hr _ _ hs
    · exact hs
  split
  · exact h.forwardFrame _ _ _ (h.examineBlock _ hs)
  · exact h.forwardFrame _ _ _ hs

omit h in
/-- A failed check carries one of the three codes of a failed transmission (R152). -/
theorem checkFrame_code {bytes : List Byte} {code : ErrorCode} (hc : checkFrame bytes = .error code) :
    code = .badLength ∨ code = .oversize ∨ code = .crcFail := by
  unfold checkFrame at hc
  repeat' split at hc
  all_goals simp at hc
  all_goals simp [← hc]

theorem transmissionEnds (request : GoodFrame → State → State) (hr : ∀ f s, P s → P (request f s)) (port : Port)
    (bytes : List Byte) (hs : P s) : P (transmissionEnds request port bytes s) := by
  unfold Machine.transmissionEnds
  split
  · exact hs
  split
  · next code hc =>
    refine h.report _ _ _ _ ?_ hs
    rcases checkFrame_code hc with rfl | rfl | rfl <;> cases port <;> rfl
  · exact h.placeFrame _ hr _ _ _ hs

theorem portACompletes (hs : P s) : P (portACompletes s) := by
  unfold Machine.portACompletes
  split
  · exact h.setFrames _ _ (h.setFrames _ _ hs)
  · exact hs

theorem portBCompletes (sent : State → State) (hsent : ∀ s, P s → P (sent s)) (hs : P s) :
    P (portBCompletes sent s) := by
  unfold Machine.portBCompletes
  split
  · exact hs
  · exact hsent _ (h.setFrames _ _ hs)
  · exact h.arbiter (h.setFrames _ _ hs)
  · exact h.arbiter (h.setFrames _ _ hs)

theorem statusExpires (hs : P s) : P (statusExpires s) := by
  unfold Machine.statusExpires
  split
  · exact h.arbiter (h.buildStatus (h.setClock _ _ hs))
  · exact hs

theorem countUptimeSecond (hs : P s) : P (countUptimeSecond s) := by
  unfold Machine.countUptimeSecond
  split
  · exact h.setClock _ _ (h.timers _ _ hs)
  · exact hs

theorem takeEvent (e : PartEvent) (hs : P s) : P (takeEvent e s) := by
  cases e
  · exact h.transmissionEnds _ (fun _ _ => h.report _ _ _ _ rfl) _ _ hs
  · exact h.portACompletes hs
  · exact h.portBCompletes _ (fun _ => h.arbiter) hs
  · exact h.staleExpires _ hs
  · exact h.lostExpires _ hs
  · exact h.holdExpires hs
  · exact h.statusExpires hs
  · exact h.countUptimeSecond hs

theorem takeBetween (events : List Interposed) (n : Nat) (hs : P s) : P (takeBetween events n s) :=
  foldl _ (fun _ e => h.takeEvent e.event) _ hs

/-! ### Requests -/

theorem serveReadSetup (rq : Request) (hs : P s) : P (serveReadSetup rq s) := by
  unfold Machine.serveReadSetup
  split <;> exact h.setFrames _ _ hs

theorem serveReadChannel (rq : Request) (hs : P s) : P (serveReadChannel rq s) := by
  unfold Machine.serveReadChannel
  split
  · exact h.refuse _ _ _ hs
  · split <;> exact h.setFrames _ _ hs

theorem serveReadTransformer (rq : Request) (hs : P s) : P (serveReadTransformer rq s) := by
  unfold Machine.serveReadTransformer
  split
  · exact h.refuse _ _ _ hs
  · split <;> exact h.setFrames _ _ hs

theorem serveReadState (rq : Request) (hs : P s) : P (serveReadState rq s) := by
  unfold Machine.serveReadState
  split
  · exact h.refuse _ _ _ hs
  split
  · split <;> exact h.setFrames _ _ hs
  split
  · split <;> exact h.setFrames _ _ hs
  split
  · split <;> exact h.setFrames _ _ hs
  · exact h.refuse _ _ _ hs

theorem serveWriteSetup (rq : Request) (hs : P s) : P (serveWriteSetup rq s) := by
  unfold Machine.serveWriteSetup
  split
  · exact h.refuse _ _ _ hs
  split
  · exact h.refuse _ _ _ hs
  split
  · exact h.refuse _ _ _ hs
  split
  · exact h.refuse _ _ _ hs
  · exact h.beginWrite _ hs

theorem serveWriteChannel (rq : Request) (hs : P s) : P (serveWriteChannel rq s) := by
  unfold Machine.serveWriteChannel
  split
  · exact h.refuse _ _ _ hs
  split
  · exact h.refuse _ _ _ hs
  unfold writeChannelEntry
  split
  · exact h.refuse _ _ _ hs
  split
  · exact h.refuse _ _ _ hs
  split
  · exact h.refuse _ _ _ hs
  split
  · exact h.refuse _ _ _ hs
  · exact h.beginWrite _ hs

theorem serveWriteTransformer (rq : Request) (hs : P s) : P (serveWriteTransformer rq s) := by
  unfold Machine.serveWriteTransformer
  split
  · exact h.refuse _ _ _ hs
  split
  · exact h.refuse _ _ _ hs
  unfold writeXfEntry
  split
  · exact h.refuse _ _ _ hs
  split
  · exact h.refuse _ _ _ hs
  split
  · exact h.refuse _ _ _ hs
  split
  · exact h.refuse _ _ _ hs
  · exact h.beginWrite _ hs

theorem serviceChannel (rq : Request) (c : Channel) (d : Nat) (hs : P s) : P (serviceChannel rq c d s) := by
  unfold Machine.serviceChannel
  split
  · exact h.refuse _ _ _ hs
  split
  · exact h.refuse _ _ _ hs
  split
  · exact h.refuse _ _ _ hs
  split
  · exact h.respondDone _ _ hs
  · exact h.beginWrite _ hs

theorem serviceXf (rq : Request) (t : Xf) (d : Nat) (hs : P s) : P (serviceXf rq t d s) := by
  unfold Machine.serviceXf
  split
  · exact h.refuse _ _ _ hs
  split
  · exact h.refuse _ _ _ hs
  split
  · exact h.refuse _ _ _ hs
  split
  · exact h.respondDone _ _ hs
  · exact h.beginWrite _ hs

theorem serveSetService (rq : Request) (hs : P s) : P (serveSetService rq s) := by
  unfold Machine.serveSetService
  split
  · exact h.refuse _ _ _ hs
  split
  · split
    · exact h.refuse _ _ _ hs
    · exact h.serviceChannel _ _ _ hs
  split
  · split
    · exact h.refuse _ _ _ hs
    · exact h.serviceXf _ _ _ hs
  · exact h.refuse _ _ _ hs

theorem serveSetGuard (lock : Bool) (rq : Request) (hs : P s) : P (serveSetGuard lock rq s) := by
  unfold Machine.serveSetGuard
  split
  · exact h.refuse _ _ _ hs
  split
  · exact h.refuse _ _ _ hs
  split
  · exact h.refuse _ _ _ hs
  split
  · exact h.refuse _ _ _ hs
  · exact h.beginWrite _ hs

theorem acknowledgeAll (hs : P s) : P (acknowledgeAll s).1 := by
  unfold Machine.acknowledgeAll
  generalize s.inside = events
  suffices ∀ (ts : List Xf) (s : State) (n : Nat), P s → P (ts.foldl (acknowledgeTurn events) (s, n)).1 from
    this _ _ _ (h.beginWalk _ hs)
  intro ts
  induction ts with
  | nil => exact fun _ _ hs => hs
  | cons t ts ih => exact fun _ _ hs => ih _ _ (h.acknowledgeFlag t (h.takeBetween events t.val hs))

theorem serveAcknowledge (rq : Request) (hs : P s) : P (serveAcknowledge rq s) := by
  unfold Machine.serveAcknowledge
  split
  · exact h.refuse _ _ _ hs
  split
  · exact h.respondDone _ _ (h.acknowledgeAll hs)
  split
  · exact h.refuse _ _ _ hs
  · exact h.respondDone _ _ (h.acknowledgeFlag _ hs)

theorem serveReadEvents (rq : Request) (hs : P s) : P (serveReadEvents rq s) := by
  unfold Machine.serveReadEvents
  split
  · exact h.refuse _ _ _ hs
  split
  · exact h.refuse _ _ _ hs
  · exact h.respondDone _ _ (h.takeEvents _ _ hs)

theorem serveSetFloor (rq : Request) (hs : P s) : P (serveSetFloor rq s) := by
  unfold Machine.serveSetFloor
  split
  · exact h.refuse _ _ _ hs
  split
  · exact h.refuse _ _ _ hs
  · exact h.respondDone _ _ (h.setFloor _ _ (by omega) hs)

theorem serveReadCapture (rq : Request) (hs : P s) : P (serveReadCapture rq s) := by
  unfold Machine.serveReadCapture
  split
  · exact h.refuse _ _ _ hs
  split
  · exact h.refuse _ _ _ hs
  · exact h.respondDone _ _ (h.afterRead _ _ hs)

theorem serveReadBank (rq : Request) (hs : P s) : P (serveReadBank rq s) := by
  unfold Machine.serveReadBank
  split
  · exact h.refuse _ _ _ hs
  split
  · exact h.refuse _ _ _ hs
  · exact h.respondDone _ _ hs

theorem clearOne (b : BankId) (hs : P s) : P (clearOne s b) := by
  unfold Machine.clearOne
  split
  · exact h.emptyBank _ _ hs
  · exact hs

theorem clearAll (hs : P s) : P (clearAll s).1 := by
  unfold Machine.clearAll
  generalize s.inside = events
  suffices ∀ (bs : List BankId) (s : State) (n : Nat), P s → P (bs.foldl (clearTurn events) (s, n)).1 from
    this _ _ _ (h.beginWalk _ hs)
  intro bs
  induction bs with
  | nil => exact fun _ _ hs => hs
  | cons b bs ih => exact fun _ _ hs => ih _ _ (h.clearOne b (h.takeBetween events b.index.val hs))

theorem serveClearBank (rq : Request) (hs : P s) : P (serveClearBank rq s) := by
  unfold Machine.serveClearBank
  split
  · exact h.refuse _ _ _ hs
  split
  · exact h.respondDone _ _ (h.clearAll hs)
  split
  · exact h.refuse _ _ _ hs
  · exact h.respondDone _ _ (h.clearOne _ hs)

theorem serveSendStatus (rq : Request) (hs : P s) : P (serveSendStatus rq s) := by
  unfold Machine.serveSendStatus
  split
  · exact h.refuse _ _ _ hs
  · exact h.respondDone _ _ (h.buildStatus hs)

theorem serveRestart (rq : Request) (hs : P s) : P (serveRestart rq s) := by
  unfold Machine.serveRestart
  split
  · exact h.refuse _ _ _ hs
  · exact h.respondDone _ _ (h.armRestart _ hs)

theorem serveByCode (lock : Bool) (rq : Request) (hs : P s) : P (serveByCode lock rq s) := by
  unfold Machine.serveByCode
  split
  · exact h.refuse _ _ _ hs
  split
  · exact h.serveReadSetup _ hs
  · exact h.serveWriteSetup _ hs
  · exact h.serveReadChannel _ hs
  · exact h.serveWriteChannel _ hs
  · exact h.serveReadTransformer _ hs
  · exact h.serveWriteTransformer _ hs
  · exact h.serveSetService _ hs
  · exact h.serveAcknowledge _ hs
  · exact h.serveReadState _ hs
  · exact h.serveReadEvents _ hs
  · exact h.serveSetFloor _ hs
  · exact h.serveReadCapture _ hs
  · exact h.serveReadBank _ hs
  · exact h.serveClearBank _ hs
  · exact h.serveSetGuard _ _ hs
  · exact h.serveSendStatus _ hs
  · exact h.serveRestart _ hs
  · exact h.refuse _ _ _ hs

/-! ### Table store and starts -/

theorem takeWritten (w : StoreWrite) (hs : P s) : P (takeWritten w s) := by
  unfold Machine.takeWritten
  split
  · exact h.formQuorum (h.setSetup _ _ hs)
  · exact h.setSetup _ _ hs
  · exact h.setChannelEntry _ _ _ hs
  · exact h.zeroIdleThermal _ (h.setMemberMap _ _ (h.setXfEntry _ _ _ hs))
  · split
    · exact h.placeChannel _ (h.setChannelEntry _ _ _ hs)
    · exact h.removeChannel _ (h.setChannelEntry _ _ _ hs)
  · split
    · exact h.placeXf _ (h.setXfEntry _ _ _ hs)
    · exact h.removeXf _ (h.setXfEntry _ _ _ hs)

theorem writeCompletes (hs : P s) : P (writeCompletes s) := by
  unfold Machine.writeCompletes
  split
  · exact hs
  · next w _ =>
    have ht : P (Machine.takeWritten w (finishWrite w s)) := h.takeWritten _ (h.setStore _ _ hs)
    unfold answerWrite
    split
    · exact h.arbiter (h.respondDone _ _ ht)
    all_goals exact ht

theorem tearWrite (hs : P s) : P (tearWrite s) := by
  unfold Machine.tearWrite
  split
  · exact hs
  · exact h.setStore _ _ hs

theorem restoreSetup (hs : P s) : P (restoreSetup s) := by
  unfold Machine.restoreSetup
  split
  · exact h.setSetup _ _ hs
  · exact h.report _ _ _ _ rfl (h.setSetup _ _ hs)

theorem restoreXf (t : Xf) (hs : P s) : P (restoreXf s t) := by
  unfold Machine.restoreXf
  split
  · exact h.setXfEntry _ _ _ hs
  · exact h.report _ _ _ _ rfl (h.setXfEntry _ _ _ hs)

theorem restoreChannel (c : Channel) (hs : P s) : P (restoreChannel s c) := by
  unfold Machine.restoreChannel
  split
  · exact h.setChannelEntry _ _ _ hs
  · exact h.report _ _ _ _ rfl (h.setChannelEntry _ _ _ hs)

theorem restoreTables (hs : P s) : P (restoreTables s) :=
  foldl _ (fun _ _ => h.restoreChannel _) _ (foldl _ (fun _ _ => h.restoreXf _) _ (h.restoreSetup hs))

theorem rebuildMemberMap (hs : P s) : P (rebuildMemberMap s) := h.setMemberMap s _ hs

theorem restoreCompletes (hs : P s) : P (restoreCompletes s) := by
  unfold Machine.restoreCompletes
  split
  · have hr := h.run s hs
    generalize ({ s with phase := .running, clock := Clock.initial } : State) = r at hr
    have hc : P ((List.finRange 40).foldl Machine.takeUpChannel r) := foldl _ (fun _ c => h.takeUpChannel c) _ hr
    have hx := foldl (fun s t => Machine.takeUpXf t s) (fun _ t => h.takeUpXf t) (List.finRange 16) (h.rebuildMemberMap hc)
    exact h.stationTakeUp hx
  · exact hs

theorem holdInReset (hs : P s) : P (holdInReset s) := by
  unfold Machine.holdInReset
  split
  · exact hs
  · exact hs
  all_goals exact h.discard _ _ (h.tearWrite hs)

theorem resetSpell (spell : ResetSpell) (hs : P s) : P (resetSpell spell s) := by
  unfold Machine.resetSpell
  split
  · exact h.holdInReset hs
  · dsimp only
    split
    · exact h.holdInReset (h.countSpell _ hs)
    · exact h.countSpell _ hs

theorem warmRestart (hs : P s) : P (warmRestart s) := h.restoreTables (h.warm _ hs)

theorem coldStart (straps : BitVec 6) (haddress : ∀ s a, P s → P { s with stationAddress := a }) (hs : P s) :
    P (coldStart straps s) := by
  have hd : P (discardWorking .restoring (Machine.tearWrite s)) := h.discard _ _ (h.tearWrite hs)
  unfold Machine.coldStart
  generalize discardWorking .restoring (Machine.tearWrite s) = d at hd
  exact h.restoreTables (haddress d _ hd)

theorem responseSent (hs : P s) : P (responseSent s) := by
  unfold Machine.responseSent
  split
  · exact h.warmRestart hs
  · exact h.arbiter (h.setFrames _ _ hs)

theorem tick (hs : P s) : P (tick s) := h.setClock _ _ (h.timers _ _ hs)

/-- A property that the primitive updates keep is kept by every command; a cold start keeps it where a change of the
station address does. -/
theorem exec {i : Instr} {t : State}
    (haddress : ∀ straps, i = .coldStart straps → ∀ s a, P s → P { s with stationAddress := a })
    (hs : P s) (ht : exec i s = .next t) : P t := by
  cases i
  case coldStart straps =>
    obtain rfl : Machine.coldStart straps s = t := Host.Outcome.next.inj ht
    exact h.coldStart straps (haddress straps rfl) hs
  case powerLoss => cases ht; exact h.discard _ _ (h.tearWrite hs)
  case frameArrival => cases ht; exact h.transmissionEnds _ (fun _ _ => h.intake _ _ _ (fun _ _ => h.serveByCode _ _)) _ _ hs
  case portATransmitCompletion => cases ht; exact h.portACompletes hs
  case portBTransmitCompletion => cases ht; exact h.portBCompletes _ (fun _ => h.responseSent) hs
  case staleTimerExpiry => cases ht; exact h.staleExpires _ hs
  case lostTimerExpiry => cases ht; exact h.lostExpires _ hs
  case holdTimerExpiry => cases ht; exact h.holdExpires hs
  case statusTimerExpiry => cases ht; exact h.statusExpires hs
  case storeWriteCompletion => cases ht; exact h.writeCompletes hs
  case restoreCompletion => cases ht; exact h.restoreCompletes hs
  case resetAsserted => cases ht; exact h.resetSpell _ hs
  case readSetup => cases ht; exact h.intake _ _ _ (fun _ _ => h.serveReadSetup _) hs
  case writeSetup => cases ht; exact h.intake _ _ _ (fun _ _ => h.serveWriteSetup _) hs
  case readChannel => cases ht; exact h.intake _ _ _ (fun _ _ => h.serveReadChannel _) hs
  case writeChannel => cases ht; exact h.intake _ _ _ (fun _ _ => h.serveWriteChannel _) hs
  case readTransformer => cases ht; exact h.intake _ _ _ (fun _ _ => h.serveReadTransformer _) hs
  case writeTransformer => cases ht; exact h.intake _ _ _ (fun _ _ => h.serveWriteTransformer _) hs
  case setService => cases ht; exact h.intake _ _ _ (fun _ _ => h.serveSetService _) hs
  case acknowledge => cases ht; exact h.intake _ _ _ (fun _ _ => h.serveAcknowledge _) hs
  case acknowledgeAll => cases ht; exact h.intake _ _ _ (fun _ _ => h.serveAcknowledge _) hs
  case readState => cases ht; exact h.intake _ _ _ (fun _ _ => h.serveReadState _) hs
  case readEvents => cases ht; exact h.intake _ _ _ (fun _ _ => h.serveReadEvents _) hs
  case setFloor => cases ht; exact h.intake _ _ _ (fun _ _ => h.serveSetFloor _) hs
  case readCapture => cases ht; exact h.intake _ _ _ (fun _ _ => h.serveReadCapture _) hs
  case readBank => cases ht; exact h.intake _ _ _ (fun _ _ => h.serveReadBank _) hs
  case clearBank => cases ht; exact h.intake _ _ _ (fun _ _ => h.serveClearBank _) hs
  case setGuard => cases ht; exact h.intake _ _ _ (fun _ _ => h.serveSetGuard _ _) hs
  case sendStatus => cases ht; exact h.intake _ _ _ (fun _ _ => h.serveSendStatus _) hs
  case restart => cases ht; exact h.intake _ _ _ (fun _ _ => h.serveRestart _) hs
  case uptimeSecondCount => cases ht; exact h.countUptimeSecond hs

end KeptByCommands

/-- A step idles on an empty queue, and executes the command at the front of any other. -/
theorem step_cases {s t : State} (h : step s = .next t) :
    (s.pending = [] ∧ t = idle s) ∨
    ∃ c rest, s.pending = c :: rest ∧ exec c { s with pending := rest } = .next t := by
  unfold step at h
  split at h
  · exact .inl ⟨‹_›, (Host.Outcome.next.inj h).symm⟩
  · exact .inr ⟨_, _, ‹_›, h⟩

/-- A property that the primitive updates, the station address and the queue of commands keep is kept by every step. -/
theorem KeptByCommands.step {P : State → Prop} (h : KeptByCommands P)
    (haddress : ∀ s a, P s → P { s with stationAddress := a }) (hpending : ∀ s p, P s → P { s with pending := p })
    {s t : State} (hs : P s) (ht : Machine.step s = .next t) : P t := by
  rcases step_cases ht with ⟨_, rfl⟩ | ⟨c, rest, _, he⟩
  · unfold idle
    split
    · split
      · exact h.tick hs
      · exact hpending _ _ hs
    · exact hs
  · exact h.exec (fun _ _ => haddress) (hpending _ _ hs) he

end Sys2Proof.Machine
end

