-- ==== Sys2Proof/Laws/Layout.lean ====
section
/-! SUPPORT. The byte layouts read back: one lemma per record says what its fields read as, and the check word and the
CRC are said once. -/

namespace Sys2Proof.Machine

/-! ### Indices and codes -/

@[simp] theorem channelOfIndex_val (c : Channel) : channelOfIndex c.val = some c := by simp [channelOfIndex]

@[simp] theorem xfOfIndex_val (t : Xf) : xfOfIndex t.val = some t := by simp [xfOfIndex]

theorem channelOfIndex_of_lt (n : Nat) (h : n < 40) : channelOfIndex n = some ⟨n, h⟩ := by simp [channelOfIndex, h]

theorem channelOfIndex_of_le (n : Nat) (h : 40 ≤ n) : channelOfIndex n = none := by simp [channelOfIndex]; omega

theorem xfOfIndex_of_lt (n : Nat) (h : n < 16) : xfOfIndex n = some ⟨n, h⟩ := by simp [xfOfIndex, h]

theorem xfOfIndex_of_le (n : Nat) (h : 16 ≤ n) : xfOfIndex n = none := by simp [xfOfIndex]; omega

@[simp] theorem ChannelKind.ofCode_code (k : ChannelKind) : ChannelKind.ofCode k.code = k := by cases k <;> rfl

@[simp] theorem Polarity.ofCode_code (p : Polarity) : Polarity.ofCode p.code = p := by cases p <;> rfl

@[simp] theorem GuardSpan.ofCode_code (g : GuardSpan) : GuardSpan.ofCode g.code = g := by cases g <;> rfl

theorem ChannelKind.code_le (k : ChannelKind) : k.code ≤ 2 := by cases k <;> simp [ChannelKind.code]

theorem Polarity.code_le (p : Polarity) : p.code ≤ 1 := by cases p <;> simp [Polarity.code]

theorem GuardSpan.code_le (g : GuardSpan) : g.code ≤ 3 := by cases g <;> simp [GuardSpan.code]

/-! ### Two's complement fields (R184) -/

/-- A 16-bit field reads back the number it carries. -/
theorem signed16_read (x : Int) (h : -32768 ≤ x) (h' : x ≤ 32767) :
    (BitVec.ofNat 16 ((BitVec.ofInt 16 x).toNat / 256 % 256 * 256 + (BitVec.ofInt 16 x).toNat % 256)).toInt = x := by
  have e : (BitVec.ofInt 16 x).toNat / 256 % 256 * 256 + (BitVec.ofInt 16 x).toNat % 256 = (BitVec.ofInt 16 x).toNat := by
    have := (BitVec.ofInt 16 x).isLt
    omega
  rw [e, BitVec.ofNat_toNat, BitVec.setWidth_eq, BitVec.toInt_ofInt]
  simp only [Int.bmod]
  omega

/-- An 8-bit field reads back the number it carries. -/
theorem signed8_read (x : Int) (h : -128 ≤ x) (h' : x ≤ 127) :
    (BitVec.ofNat 8 ((BitVec.ofInt 8 x).toNat % 256)).toInt = x := by
  have e : (BitVec.ofInt 8 x).toNat % 256 = (BitVec.ofInt 8 x).toNat := by
    have := (BitVec.ofInt 8 x).isLt
    omega
  rw [e, BitVec.ofNat_toNat, BitVec.setWidth_eq, BitVec.toInt_ofInt]
  simp only [Int.bmod]
  omega

/-! ### The CRC and the check word (R177, R183) -/

theorem crcShift_lt (r : Nat) (h : r < 65536) : crcShift r < 65536 := by
  have : r / 32768 * 0x1021 < 2 ^ 16 := by omega
  exact Nat.xor_lt_two_pow (n := 16) (by omega) this

theorem crcByte_lt (r : Nat) (b : Byte) (h : r < 65536) : crcByte r b < 65536 := by
  have h0 : r ^^^ (b.toNat * 256) < 65536 := Nat.xor_lt_two_pow (n := 16) h (by omega)
  have h2 := crcShift_lt _ (crcShift_lt _ h0)
  have h4 := crcShift_lt _ (crcShift_lt _ h2)
  have h6 := crcShift_lt _ (crcShift_lt _ h4)
  exact crcShift_lt _ (crcShift_lt _ h6)

/-- The CRC is a 16-bit number. -/
theorem crc16_lt (bs : List Byte) : crc16 bs < 65536 := by
  have key : ∀ r, r < 65536 → bs.foldl crcByte r < 65536 := by
    induction bs with
    | nil => exact fun r h => h
    | cons b bs ih => exact fun r h => ih _ (crcByte_lt _ _ h)
  exact key _ (by decide)

/-- Two bytes of a 16-bit number read back as it. -/
theorem be16_read (n : Nat) (h : n < 65536) : (BitVec.ofNat 8 (n / 256)).toNat * 256 + (BitVec.ofNat 8 n).toNat = n := by
  simp
  omega

/-- Two bytes are the two bytes of the number that they read as. -/
theorem be16_of_bytes (a b : Byte) : be16 (a.toNat * 256 + b.toNat) = [a, b] := by
  simp only [be16, List.cons.injEq, and_true]
  constructor <;> (apply BitVec.eq_of_toNat_eq; simp; omega)

/-- A sealed image opens to the bytes it was sealed over. -/
theorem openImage_sealImage (n : Nat) (bs : List Byte) (h : bs.length = n) : openImage n (sealImage bs) = some bs := by
  have hc := crc16_lt bs
  subst h
  have hw : u16 (bs ++ be16 (crc16 bs)) bs.length = crc16 bs := by
    simp [u16, u8, be16, List.getD]
    omega
  have hl : (bs ++ be16 (crc16 bs)).length = bs.length + 2 := by simp [be16]
  have ht : (bs ++ be16 (crc16 bs)).take bs.length = bs := by simp
  simp only [openImage, sealImage, hw, hl, ht, and_self, if_true]

/-! ### Setup record (R170, R185) -/

/-- The field bytes of a setup record in range pass every test and read back as the record, whatever follows them. -/
theorem setupFieldBytes_read (e : Setup) (h : e.InRange) (rest : List Byte) (span : GuardSpan) (lock : Bool) :
    setupFieldFault (setupFieldBytes e ++ rest) = none ∧
    setupOfFields (setupFieldBytes e ++ rest) span lock = { e with guardSpan := span, lockFlag := lock } := by
  obtain ⟨h1, h2, h3, h4, h5, h6⟩ := h
  have k1 : u8 (setupFieldBytes e ++ rest) 0 = e.freq := by simp [setupFieldBytes, u8, be8, be16]; omega
  have k2 : u8 (setupFieldBytes e ++ rest) 1 = e.statusInterval := by simp [setupFieldBytes, u8, be8, be16]; omega
  have k3 : u8 (setupFieldBytes e ++ rest) 2 = e.captureLevel := by simp [setupFieldBytes, u8, be8, be16]; omega
  have k4 : u16 (setupFieldBytes e ++ rest) 3 = e.watchRate := by simp [setupFieldBytes, u16, u8, be8, be16]; omega
  have k5 : u16 (setupFieldBytes e ++ rest) 5 = e.stormRate := by simp [setupFieldBytes, u16, u8, be8, be16]; omega
  have k6 : u16 (setupFieldBytes e ++ rest) 7 = e.holdTime := by simp [setupFieldBytes, u16, u8, be8, be16]; omega
  have k7 : u8 (setupFieldBytes e ++ rest) 9 = e.quorum := by simp [setupFieldBytes, u8, be8, be16]; omega
  constructor
  · unfold setupFieldFault
    rw [k1, k2, k3, k4, k5, k6, k7]
    simp [firstFault, h1, h2, h3, h4, h5, h6]
  · unfold setupOfFields
    rw [k1, k2, k3, k4, k5, k6, k7]

/-! ### Channel entry (R1, R185) -/

/-- The field bytes of a channel entry in range pass every test and read back as the entry, whatever follows them. -/
theorem channelFieldBytes_read (e : ChannelEntry) (h : e.InRange) (rest : List Byte) (inService : Bool) :
    channelFieldFault (channelFieldBytes e ++ rest) = none ∧
    channelOfFields (channelFieldBytes e ++ rest) inService = { e with inService := inService } := by
  obtain ⟨h1, h2, h3, h4, h5, h6⟩ := h
  have l1 := e.kind.code_le
  have l2 := e.polarity.code_le
  have k1 : u8 (channelFieldBytes e ++ rest) 0 = e.kind.code := by simp [channelFieldBytes, u8, be8, be16]; omega
  have k2 : u16 (channelFieldBytes e ++ rest) 1 = e.sensorId := by
    simp [channelFieldBytes, u16, u8, be8, be16]; omega
  have k3 : u8 (channelFieldBytes e ++ rest) 3 = e.input := by simp [channelFieldBytes, u8, be8, be16]; omega
  have k4 : u16 (channelFieldBytes e ++ rest) 4 = e.gain := by simp [channelFieldBytes, u16, u8, be8, be16]; omega
  have k5 : s16 (channelFieldBytes e ++ rest) 6 = e.offset := by
    simp only [channelFieldBytes, s16, u16, u8, be8, be16, signed16]
    simp
    exact signed16_read _ (by omega) (by omega)
  have k6 : u8 (channelFieldBytes e ++ rest) 8 = e.polarity.code := by
    simp [channelFieldBytes, u8, be8, be16, signed16]; omega
  have k7 : u8 (channelFieldBytes e ++ rest) 9 = e.shift := by
    simp [channelFieldBytes, u8, be8, be16, signed16]; omega
  have k8 : u16 (channelFieldBytes e ++ rest) 10 = e.lostLimit := by
    simp [channelFieldBytes, u16, u8, be8, be16, signed16]; omega
  constructor
  · unfold channelFieldFault
    rw [k1, k3, k4, k5, k6, k7, k8]
    have z1 : e.gain ≠ 0 := by omega
    have z2 : e.offset ≠ -32768 := by omega
    simp [firstFault, h2, h5, h6, l1, l2, z1, z2]
  · unfold channelOfFields
    rw [k1, k2, k3, k4, k5, k6, k7, k8, ChannelKind.ofCode_code, Polarity.ofCode_code]

/-! ### Transformer entry (R29, R53, R54, R79, R185) -/

@[simp] theorem slotBytes_length (m : MemberSlot) : (slotBytes m).length = 2 := by
  unfold slotBytes
  cases m.channel <;> rfl

/-- A member slot in range passes its two tests and reads back, wherever it stands. -/
theorem slotBytes_read (m : MemberSlot) (h : m.InRange) (before rest : List Byte) (i : Nat) (hi : before.length = i) :
    slotOfFields (before ++ (slotBytes m ++ rest)) i = m ∧
    slotChannelOk (before ++ (slotBytes m ++ rest)) i = true ∧
    slotWeightOk (before ++ (slotBytes m ++ rest)) i = true := by
  obtain ⟨h1, h2, h3⟩ := h
  have hw : s8 (before ++ (slotBytes m ++ rest)) (i + 1) = m.weight := by
    subst hi
    simp only [s8, u8, slotBytes, signed8, be8]
    cases m.channel <;> simp [List.getD] <;> exact signed8_read _ (by omega) (by omega)
  cases hc : m.channel with
  | none =>
    have h0 : m.weight = 0 := h3.1 hc
    have hu : u8 (before ++ (slotBytes m ++ rest)) i = 255 := by
      subst hi
      simp [u8, slotBytes, hc, be8]
    have hm : m = ⟨none, 0⟩ := by
      cases m
      simp_all
    simp only [slotOfFields, slotChannelOk, slotWeightOk, hw, hu]
    simp [channelOfIndex, hm]
  | some c =>
    have h0 : m.weight ≠ 0 := fun h => by have := h3.2 h; simp [hc] at this
    have hu : u8 (before ++ (slotBytes m ++ rest)) i = c.val := by
      subst hi
      simp [u8, slotBytes, hc, be8]
      omega
    have hm : (⟨some c, m.weight⟩ : MemberSlot) = m := by
      cases m
      simp_all
    have hne : (c.val == 255) = false := by simp; omega
    simp only [slotOfFields, slotChannelOk, slotWeightOk, hw, hu, channelOfIndex_val]
    exact ⟨hm, by simp, by simp [h1, h2, h0, hne]⟩

@[simp] theorem xfFieldBytes_length (e : XfEntry) : (xfFieldBytes e).length = 35 := by
  simp [xfFieldBytes, thresholdBytes, be8, be16, flagByte]

/-- The field bytes of a transformer entry in range pass every test and read back as the entry, whatever follows. -/
theorem xfFieldBytes_read (e : XfEntry) (h : e.InRange) (rest : List Byte) (inService : Bool) :
    xfFieldFault (xfFieldBytes e ++ rest) = none ∧
    xfOfFields (xfFieldBytes e ++ rest) inService = { e with inService := inService } := by
  obtain ⟨h1, ⟨n1, n2, n3, n4, n5⟩, ⟨s1, s2, s3, s4, s5⟩, h4, h5, h6, h7, h8⟩ := h
  set tail := thresholdBytes e.normal ++ thresholdBytes e.storm ++ be8 e.risePersistence ++ be16 e.fallPersistence
    ++ flagByte e.latch ++ be16 e.coefficient ++ be8 e.shift ++ be16 e.alertLimit ++ be16 e.alarmLimit ++ rest with ht
  have hb : xfFieldBytes e ++ rest =
      slotBytes e.slots[0] ++ (slotBytes e.slots[1] ++ (slotBytes e.slots[2] ++ (slotBytes e.slots[3] ++ tail))) := by
    simp only [xfFieldBytes, ht, List.append_assoc]
  obtain ⟨a1, a2, a3⟩ := slotBytes_read e.slots[0] (h1 0) []
    (slotBytes e.slots[1] ++ (slotBytes e.slots[2] ++ (slotBytes e.slots[3] ++ tail))) 0 rfl
  obtain ⟨b1, b2, b3⟩ := slotBytes_read e.slots[1] (h1 1) (slotBytes e.slots[0])
    (slotBytes e.slots[2] ++ (slotBytes e.slots[3] ++ tail)) 2 (slotBytes_length _)
  obtain ⟨c1, c2, c3⟩ := slotBytes_read e.slots[2] (h1 2) (slotBytes e.slots[0] ++ slotBytes e.slots[1])
    (slotBytes e.slots[3] ++ tail) 4 (by simp)
  obtain ⟨d1, d2, d3⟩ := slotBytes_read e.slots[3] (h1 3)
    (slotBytes e.slots[0] ++ slotBytes e.slots[1] ++ slotBytes e.slots[2]) tail 6 (by simp)
  simp only [List.append_assoc, List.nil_append] at a1 a2 a3 b1 b2 b3 c1 c2 c3 d1 d2 d3
  rw [← hb] at a1 a2 a3 b1 b2 b3 c1 c2 c3 d1 d2 d3
  have hu : ∀ n, u8 (xfFieldBytes e ++ rest) (8 + n) = u8 tail n := by
    intro n
    have hs : xfFieldBytes e ++ rest =
        (slotBytes e.slots[0] ++ slotBytes e.slots[1] ++ slotBytes e.slots[2] ++ slotBytes e.slots[3]) ++ tail := by
      rw [hb]
      simp
    have hl : (slotBytes e.slots[0] ++ slotBytes e.slots[1] ++ slotBytes e.slots[2]
        ++ slotBytes e.slots[3]).length = 8 := by simp
    rw [hs]
    unfold u8
    rw [List.getD_append_right _ _ _ _ (by omega), hl]
    simp
  have hu16 : ∀ n, u16 (xfFieldBytes e ++ rest) (8 + n) = u16 tail n := by
    intro n
    unfold u16
    rw [hu, show 8 + n + 1 = 8 + (n + 1) by omega, hu]
  have t0 : u16 (xfFieldBytes e ++ rest) 8 = e.normal.p1 := by
    rw [hu16 0, ht]; simp [thresholdBytes, u16, u8, be16, be8]; omega
  have t1 : u16 (xfFieldBytes e ++ rest) 10 = e.normal.p2 := by
    rw [hu16 2, ht]; simp [thresholdBytes, u16, u8, be16, be8]; omega
  have t2 : u16 (xfFieldBytes e ++ rest) 12 = e.normal.p3 := by
    rw [hu16 4, ht]; simp [thresholdBytes, u16, u8, be16, be8]; omega
  have t3 : u16 (xfFieldBytes e ++ rest) 14 = e.normal.h := by
    rw [hu16 6, ht]; simp [thresholdBytes, u16, u8, be16, be8]; omega
  have t4 : u16 (xfFieldBytes e ++ rest) 16 = e.storm.p1 := by
    rw [hu16 8, ht]; simp [thresholdBytes, u16, u8, be16, be8]; omega
  have t5 : u16 (xfFieldBytes e ++ rest) 18 = e.storm.p2 := by
    rw [hu16 10, ht]; simp [thresholdBytes, u16, u8, be16, be8]; omega
  have t6 : u16 (xfFieldBytes e ++ rest) 20 = e.storm.p3 := by
    rw [hu16 12, ht]; simp [thresholdBytes, u16, u8, be16, be8]; omega
  have t7 : u16 (xfFieldBytes e ++ rest) 22 = e.storm.h := by
    rw [hu16 14, ht]; simp [thresholdBytes, u16, u8, be16, be8]; omega
  have t8 : u8 (xfFieldBytes e ++ rest) 24 = e.risePersistence := by
    rw [hu 16, ht]; simp [thresholdBytes, u8, be16, be8]; omega
  have t9 : u16 (xfFieldBytes e ++ rest) 25 = e.fallPersistence := by
    rw [hu16 17, ht]; simp [thresholdBytes, u16, u8, be16, be8]; omega
  have t10 : u8 (xfFieldBytes e ++ rest) 27 = e.latch.toNat := by
    rw [hu 19, ht]; simp [thresholdBytes, u8, be16, be8, flagByte]; cases e.latch <;> simp
  have t11 : u16 (xfFieldBytes e ++ rest) 28 = e.coefficient := by
    rw [hu16 20, ht]; simp [thresholdBytes, u16, u8, be16, be8, flagByte]; omega
  have t12 : u8 (xfFieldBytes e ++ rest) 30 = e.shift := by
    rw [hu 22, ht]; simp [thresholdBytes, u8, be16, be8, flagByte]; omega
  have t13 : u16 (xfFieldBytes e ++ rest) 31 = e.alertLimit := by
    rw [hu16 23, ht]; simp [thresholdBytes, u16, u8, be16, be8, flagByte]; omega
  have t14 : u16 (xfFieldBytes e ++ rest) 33 = e.alarmLimit := by
    rw [hu16 25, ht]; simp [thresholdBytes, u16, u8, be16, be8, flagByte]; omega
  have lb : e.latch.toNat ≤ 1 := Bool.toNat_le e.latch
  have lr : (e.latch.toNat == 1) = e.latch := by cases e.latch <;> rfl
  constructor
  · unfold xfFieldFault thresholdTests persistenceAndThermalTests
    simp only [a2, a3, b2, b3, c2, c3, d2, d3, t0, t1, t2, t3, t4, t5, t6, t7, t8, t9, t10, t11, t12, t13, t14, lb,
      List.cons_append, List.nil_append, firstFault, Nat.reduceAdd]
    have z1 : e.normal.p1 ≤ 5000 := by omega
    have z2 : e.normal.p2 ≤ 5000 := by omega
    have z3 : e.storm.p1 ≤ 5000 := by omega
    have z4 : e.storm.p2 ≤ 5000 := by omega
    simp [n1, n2, n3, n4, n5, s1, s2, s3, s4, s5, h4, h5, h6, h7, h8, z1, z2, z3, z4]
  · unfold xfOfFields thresholdOfFields
    simp only [a1, b1, c1, d1, t0, t1, t2, t3, t4, t5, t6, t7, t8, t9, t10, t11, t12, t13, t14, lr, Nat.reduceAdd]
    have hv : (⟨#[e.slots[0], e.slots[1], e.slots[2], e.slots[3]], rfl⟩ : Vector MemberSlot 4) = e.slots := by
      ext i hi
      interval_cases i <;> rfl
    rw [hv]

/-! ### The first field out of range -/

/-- No field is out of range just where every test holds. -/
theorem firstFault_eq_none (l : List (Nat × Bool)) : firstFault l = none ↔ ∀ q ∈ l, q.2 = true := by
  induction l with
  | nil => simp [firstFault]
  | cons q l ih =>
    obtain ⟨n, ok⟩ := q
    cases ok <;> simp [firstFault, ih]

/-- In a list of tests in field-number order, the field whose test fails with every lower one holding is the first out of
range. -/
theorem firstFault_eq_some (l : List (Nat × Bool)) (n : Nat) (order : l.Pairwise (fun a b => a.1 < b.1))
    (fails : (n, false) ∈ l) (lower : ∀ q ∈ l, q.1 < n → q.2 = true) : firstFault l = some n := by
  induction l with
  | nil => simp at fails
  | cons q l ih =>
    obtain ⟨m, ok⟩ := q
    rw [List.pairwise_cons] at order
    rcases List.mem_cons.1 fails with h | h
    · cases h
      rfl
    · obtain rfl : ok = true := lower _ List.mem_cons_self (order.1 _ h)
      exact ih order.2 h (fun q hq => lower q (List.mem_cons_of_mem _ hq))

end Sys2Proof.Machine
end

