-- ==== Sys2Proof/Laws/Requests.lean ====
section
/-! SUPPORT. Request intake, once for every row: what taking a request is in a state that serves it, that refuses it or
that discards it, and what composing its answer leaves. -/

namespace Sys2Proof.Machine

/-! ### The body of a request (R184) -/

@[simp] theorem requestBody_length (code tag : Byte) (p : List Byte) : (requestBody code tag p).length = p.length + 2 :=
  rfl

@[simp] theorem requestBody_drop_two (code tag : Byte) (p : List Byte) : (requestBody code tag p).drop 2 = p := rfl

@[simp] theorem requestBody_drop_three (code tag : Byte) (p : List Byte) :
    (requestBody code tag p).drop 3 = p.drop 1 := rfl

@[simp] theorem requestBody_u8_code (code tag : Byte) (p : List Byte) : u8 (requestBody code tag p) 0 = code.toNat :=
  rfl

/-- Parameter byte `n` stands at body byte `n + 2`. -/
theorem requestBody_u8 (code tag : Byte) (p : List Byte) (n : Nat) : u8 (requestBody code tag p) (n + 2) = u8 p n := by
  simp [u8, requestBody]

@[simp] theorem requestBody_u8_two (code tag : Byte) (p : List Byte) : u8 (requestBody code tag p) 2 = u8 p 0 :=
  requestBody_u8 _ _ _ 0

@[simp] theorem requestBody_u8_three (code tag : Byte) (p : List Byte) : u8 (requestBody code tag p) 3 = u8 p 1 :=
  requestBody_u8 _ _ _ 1

@[simp] theorem requestBody_u8_four (code tag : Byte) (p : List Byte) : u8 (requestBody code tag p) 4 = u8 p 2 :=
  requestBody_u8 _ _ _ 2

@[simp] theorem u8_cons_zero (b : Byte) (p : List Byte) : u8 (b :: p) 0 = b.toNat := rfl

/-! ### The own frames (R158 to R160, R164) -/

/-- A composed response stands READY; the forward run restarts unless a status frame waited already. -/
theorem FrameHandler.putResponse_pending (f : FrameHandler) (rq : Request) (frame : List Byte) :
    ({ f with response := .pending rq } : FrameHandler).putResponse frame =
      { f with response := .ready frame, forwardRun := if f.status.isSome then f.forwardRun else 0 } := by
  unfold putResponse noteOwn ownWaiting
  cases f.status <;> rfl

/-- The answer to the request in hand is the state with that answer composed. -/
theorem arbiter_respond_holdRequest (rq rq' : Request) (r : Result) (d : Nat) (data : List Byte) (s : State) :
    arbiter (respond rq r d data (holdRequest rq' s)) = s.answered rq r d data := by
  unfold respond holdRequest State.answered State.setFrames
  simp only [FrameHandler.putResponse_pending]

theorem arbiter_refuse_holdRequest (rq rq' : Request) (r : Result) (d : Nat) (s : State) :
    arbiter (refuse rq r d (holdRequest rq' s)) = s.answered rq r d [] := arbiter_respond_holdRequest _ _ _ _ _ _

theorem arbiter_respondDone_holdRequest (rq rq' : Request) (data : List Byte) (s : State) :
    arbiter (respondDone rq data (holdRequest rq' s)) = s.answered rq .done 0 data :=
  arbiter_respond_holdRequest _ _ _ _ _ _

/-- A write begun on the request in hand is the state that awaits it. -/
theorem arbiter_beginWrite_holdRequest (rq : Request) (w : StoreWrite) (s : State) :
    arbiter (beginWrite w (holdRequest rq s)) = s.awaiting rq w := rfl

/-- The requests' own checks do not look at the slot that holds the request. -/
@[simp] theorem holdRequest_setup (rq : Request) (s : State) : (holdRequest rq s).setup = s.setup := rfl
@[simp] theorem holdRequest_channel (rq : Request) (s : State) (c : Channel) :
    (holdRequest rq s).channel c = s.channel c := rfl
@[simp] theorem holdRequest_xf (rq : Request) (s : State) (t : Xf) : (holdRequest rq s).xf t = s.xf t := rfl
@[simp] theorem holdRequest_channelEntry (rq : Request) (s : State) (c : Channel) :
    (holdRequest rq s).channelEntry c = s.channelEntry c := rfl
@[simp] theorem holdRequest_xfEntry (rq : Request) (s : State) (t : Xf) :
    (holdRequest rq s).xfEntry t = s.xfEntry t := rfl
@[simp] theorem holdRequest_kindOf (rq : Request) (s : State) (c : Channel) :
    (holdRequest rq s).kindOf c = s.kindOf c := rfl
@[simp] theorem holdRequest_station (rq : Request) (s : State) : (holdRequest rq s).station = s.station := rfl
@[simp] theorem holdRequest_queue (rq : Request) (s : State) : (holdRequest rq s).queue = s.queue := rfl
@[simp] theorem holdRequest_recorder (rq : Request) (s : State) : (holdRequest rq s).recorder = s.recorder := rfl
@[simp] theorem holdRequest_bank (rq : Request) (s : State) (b : BankId) : (holdRequest rq s).bank b = s.bank b := rfl
@[simp] theorem holdRequest_banks (rq : Request) (s : State) : (holdRequest rq s).banks = s.banks := rfl
@[simp] theorem holdRequest_anyChannelInService (rq : Request) (s : State) :
    (holdRequest rq s).anyChannelInService = s.anyChannelInService := rfl

/-! ### Intake (R158, R165, R168) -/

/-- A running part with a free slot handles the request, and the arbiter decides. -/
theorem intake_serving {s : State} (h : s.Serving) (source : Byte) (body : List Byte)
    (serve : Request → State → State) :
    intake source body serve s = arbiter (serve ⟨source, body⟩ (holdRequest ⟨source, body⟩ s)) := by
  obtain ⟨hp, hf⟩ := h
  have : (holdRequest ⟨source, body⟩ s).phase ≠ .restoring := by show s.phase ≠ _; simp [hp]
  simp [intake, State.bypassClosed, hp, hf, takeRequest, this]

/-- While the restore is pending a request that finds a free slot is NOT READY. -/
theorem intake_restoring {s : State} (hp : s.phase = .restoring) (hf : s.frames.response = .free) (source : Byte)
    (body : List Byte) (serve : Request → State → State) :
    intake source body serve s = s.answered ⟨source, body⟩ .notReady 0 [] := by
  have : (holdRequest ⟨source, body⟩ s).phase = .restoring := hp
  simp [intake, State.bypassClosed, hp, hf, takeRequest, this, arbiter_refuse_holdRequest]

/-- A request that finds an occupied slot is an overrun. -/
theorem intake_occupied {s : State} (hp : s.phase = .running ∨ s.phase = .restoring) (hf : s.frames.response ≠ .free)
    (source : Byte) (body : List Byte) (serve : Request → State → State) :
    intake source body serve s = report .linkB .requestOverrun source s := by
  unfold intake
  split
  · next hb => rcases hp with hp | hp <;> simp [State.bypassClosed, hp] at hb
  · split
    · next h => exact absurd h hf
    all_goals rfl

/-- With the bypass closed no request arrives. -/
theorem intake_closed {s : State} (hp : s.phase = .powerAbsent ∨ s.phase = .heldInReset) (source : Byte)
    (body : List Byte) (serve : Request → State → State) : intake source body serve s = s := by
  rcases hp with hp | hp <;> simp [intake, State.bypassClosed, hp]

/-! ### The blocks' work beside the frame handler -/

/-- What a request has the blocks do neither reads nor writes the frame handler, so the slot may be written first or
last. -/
theorem takeChange_setFrames (k : EventKey) (f t : Nat) (s : State) (fr : FrameHandler) :
    takeChange k f t (s.setFrames fr) = (takeChange k f t s).setFrames fr := rfl

theorem replaceBank_setFrames (b : BankId) (r : BankRec) (s : State) (fr : FrameHandler) :
    replaceBank b r (s.setFrames fr) = (replaceBank b r s).setFrames fr := by
  unfold replaceBank
  rw [apply_ite (fun u => State.setFrames u fr)]
  rfl

theorem report_setFrames (b : BankId) (c : ErrorCode) (x : Byte) (s : State) (fr : FrameHandler) :
    report b c x (s.setFrames fr) = (report b c x s).setFrames fr := by
  unfold report
  rw [apply_ite (fun u => State.setFrames u fr), ← replaceBank_setFrames]
  rfl

theorem clearOne_setFrames (b : BankId) (s : State) (fr : FrameHandler) :
    clearOne (s.setFrames fr) b = (clearOne s b).setFrames fr := by
  unfold clearOne
  rw [apply_ite (fun u => State.setFrames u fr), ← replaceBank_setFrames]
  rfl

/-- The events of a request that names no event: none. -/
@[simp] theorem takeBetween_nil (n : Nat) (s : State) : takeBetween [] n s = s := rfl

theorem enterStation_setFrames (new : StationState) (s : State) (fr : FrameHandler) :
    enterStation new (s.setFrames fr) = (enterStation new s).setFrames fr := by
  unfold enterStation
  rw [apply_ite (fun u => State.setFrames u fr)]
  rfl

theorem quorumBecomesMet_setFrames (s : State) (fr : FrameHandler) :
    quorumBecomesMet (s.setFrames fr) = (quorumBecomesMet s).setFrames fr := by
  unfold quorumBecomesMet
  rw [State.setFrames_station]
  cases s.station.state
  · exact enterStation_setFrames _ (stopHold (setWatchRun 0 s)) fr
  · exact enterStation_setFrames _ (stopHold (setWatchRun 0 s)) fr
  · rfl

theorem formQuorum_setFrames (s : State) (fr : FrameHandler) :
    formQuorum (s.setFrames fr) = (formQuorum s).setFrames fr := by
  unfold formQuorum
  dsimp only
  rw [apply_ite (fun u => State.setFrames u fr), apply_ite (fun u => State.setFrames u fr),
    ← quorumBecomesMet_setFrames]
  rfl

theorem levelNotice_setFrames (old new : Level) (s : State) (fr : FrameHandler) :
    levelNotice old new (s.setFrames fr) = (levelNotice old new s).setFrames fr :=
  formQuorum_setFrames (s.setStation { s.station with alertCount := countAfter old new s.station.alertCount }) fr

theorem levelChanged_setFrames (t : Xf) (old new : Level) (s : State) (fr : FrameHandler) :
    levelChanged t old new (s.setFrames fr) = (levelChanged t old new s).setFrames fr :=
  levelNotice_setFrames old new (takeChange (.level t) old.rank new.rank (refreshAlarmOut s)) fr

theorem rederive_setFrames (t : Xf) (s : State) (fr : FrameHandler) :
    rederive t (s.setFrames fr) = (rederive t s).setFrames fr := by
  unfold rederive
  dsimp only
  rw [apply_ite (fun u => State.setFrames u fr), ← levelChanged_setFrames]
  rfl

theorem acknowledgeFlag_setFrames (t : Xf) (s : State) (fr : FrameHandler) :
    acknowledgeFlag t (s.setFrames fr) = (acknowledgeFlag t s).setFrames fr := by
  have h := congrArg refreshAlarmOut (rederive_setFrames t (s.mapXf t (fun r => { r with unack := false })) fr)
  unfold acknowledgeFlag
  rw [apply_ite (fun u => State.setFrames u fr)]
  exact congrArg (fun u => if (s.xf t).alarming then u else s.setFrames fr) h

/-- The acknowledgement of some transformers in turn, with no event between them, beside the frame handler. -/
theorem acknowledgeTurns_setFrames (ts : List Xf) (s : State) (n : Nat) (fr : FrameHandler) :
    ts.foldl (acknowledgeTurn []) (s.setFrames fr, n) =
      ((ts.foldl (acknowledgeTurn []) (s, n)).1.setFrames fr, (ts.foldl (acknowledgeTurn []) (s, n)).2) := by
  induction ts generalizing s n with
  | nil => rfl
  | cons t ts ih =>
    simp only [List.foldl_cons, acknowledgeTurn, takeBetween_nil, acknowledgeStep, acknowledgeFlag_setFrames,
      State.setFrames_xf]
    exact ih _ _

/-! ### The answer after the blocks' work -/

/-- A state worked on while its slot held the request, answered, is that work's state answered. -/
theorem arbiter_respond_setFrames (rq rq' : Request) (r : Result) (d : Nat) (data : List Byte) (u : State) :
    arbiter (respond rq r d data (u.setFrames { u.frames with response := .pending rq' })) = u.answered rq r d data :=
  arbiter_respond_holdRequest rq rq' r d data u

end Sys2Proof.Machine
end

