-- ==== Sys2Proof/Tests/Slice0.lean ====
section
/-! SUPPORT. The model's own tests: the refusals of WellFormed, worked cases of the manual (each names its chapter), and
for every statement with hypotheses one witness, a state and operands that meet them. -/

namespace Sys2Proof.Tests

open Sys2Proof.Machine

-- One theorem at a time: elaborated side by side, these many kernel evaluations wait on one another in a thread each.
set_option Elab.async false

/-! ### Small states -/

/-- The state after a command, or the state itself where the command answers none. -/
def ran (i : Instr) (s : State) : State :=
  match exec i s with
  | .next t => t
  | .fault _ => s
  | .refused _ => s

/-- A part that has just started to run, with factory default tables. -/
def up : State := { State.reset with phase := .running }

/-- A part held in reset. -/
def heldState : State := { State.reset with phase := .heldInReset }

/-- Channel 4 as the worked case of section 1.8 has it before the arrival of cycle 1001. -/
def entry4 : ChannelEntry :=
  { ChannelEntry.factory with sensorId := 312, gain := 1843, offset := -2, shift := 3, inService := true }

def record4 : ChannelRec :=
  { ChannelRec.off with
    state := .valid, y := 196608, mean := 780, lastCycle := some 1000, output := 345, good := 2
    staleTimer := some 100, lostTimer := some 1000 }

def oneChannel : State := (up.setChannelEntry 4 entry4).setChannel 4 record4

/-- A cycle block of one input: 31 samples of `x` behind a first one. -/
def blockBody (cycle : Nat) (first x : Int) : List Byte :=
  be16 312 ++ be16 cycle ++ [1, 0] ++ signed16 first ++ (List.replicate 31 (signed16 x)).flatten

def blockFor (s : State) (cycle : Nat) (first x : Int) : Instr :=
  .frameArrival .a (frameBytes kindCycleBlock s.stationAddress 0x10 (blockBody cycle first x)) false

/-- Transformer 3 with one member, the live channel 4, latched at ALARM with L at QUIET. -/
def xf3Entry : XfEntry :=
  { XfEntry.factory with
    slots := ⟨#[⟨some 4, 4⟩, ⟨none, 0⟩, ⟨none, 0⟩, ⟨none, 0⟩], rfl⟩, inService := true }

def xf3 : XfRec :=
  { XfRec.off with
    inService := true, quality := .good, waitSet := ⟨#[true, false, false, false], rfl⟩, reported := .alarm
    unack := true }

/-- A sound working state: a flagged transformer, a live member, an undelivered record, a VALID bank, and a command that
waits. -/
def alarmed : State :=
  { (oneChannel.setXfEntry 3 xf3Entry).setXf 3 xf3 with
    memberMap := (Vector.replicate 40 none).set 4 (some (3, 0))
    alarmOut := true
    station := { StationRec.initial with alertCount := 1 }
    queue :=
      { records := [newRecord 5 (.fault .linkA) 0 1], reportFloor := 2 }
    banks := (Vector.replicate 7 BankRec.empty).set 0 ((BankRec.empty).take 5 .crcFail 255)
    pending := [.acknowledgeAll 1 7] }

/-- A setup record in range that differs from the factory default. -/
def setup60 : Setup := { Setup.factory with freq := 60, quorum := 16, watchRate := 1, stormRate := 65535 }

/-! ### WellFormed -/

theorem test_wellFormed_refuses_empty_transmission : (Instr.frameArrival .a [] false).wellFormed = false := by decide

theorem test_wellFormed_refuses_long_parameters :
    (Instr.readSetup 1 2 (List.replicate 1023 0)).wellFormed = false ∧
    (Instr.readSetup 1 2 (List.replicate 1022 0)).wellFormed = true := by
  simp only [Instr.wellFormed, paramsFit, List.length_replicate]; decide

theorem test_wellFormed_refuses_acknowledge_all_as_one : (Instr.acknowledge 1 2 [0xFF]).wellFormed = false := by decide

theorem test_no_word_spells_a_command : decodeTableWord 8 1 = none := rfl

/-! ### Layouts (chapter 11) -/

/-- R183: the CRC of the nine ASCII digits. -/
theorem test_crc_check_value : crc16 [0x31, 0x32, 0x33, 0x34, 0x35, 0x36, 0x37, 0x38, 0x39] = 0x29B1 := by decide +kernel

/-- R170 and R185: the factory default setup record's image, field by field. -/
theorem test_factory_setup_image :
    setupImageBytes Setup.factory = [50, 1, 2, 0, 20, 0, 50, 3, 0x84, 2, 0, 0] := by decide

/-! ### Channel conditioning (chapter 1) -/

/-- Worked case "one block through the three stages". -/
theorem test_block_through_three_stages :
    let r := (ran (blockFor oneChannel 1001 786 801) oneChannel).channel 4
    (r.mean, r.y, r.output, r.degraded, r.good, r.state) = (801, 197664, 348, 0, 3, ChannelState.valid) := by
  decide +kernel

/-- Worked case "a gap of two cycles". -/
theorem test_gap_of_two_cycles :
    let s := oneChannel.setChannel 4
      { record4 with y := 197664, mean := 801, lastCycle := some 1001, output := 348, good := 3 }
    let r := (ran (blockFor s 1004 797 793) s).channel 4
    (r.mean, r.y, r.output, r.good, r.lastCycle) = (793, 199848, 352, 4, some 1004) := by decide +kernel

/-- R15: a channel whose stale timer expires is STALE, its output held. -/
theorem test_stale_timer_expiry :
    let r := (ran (.staleTimerExpiry 4) oneChannel).channel 4
    (r.state, r.output, r.staleTimer, r.lostTimer) = (ChannelState.stale, 345, none, some 1000) := by decide +kernel

/-- R17: a channel whose lost timer expires is LOST, with output 0 and CHANNEL LOST captured. -/
theorem test_lost_timer_expiry :
    let t := ran (.lostTimerExpiry 4) oneChannel
    ((t.channel 4).state, (t.channel 4).output, (t.bank .input).code, (t.bank .input).subject) =
      (ChannelState.lost, 0, some .channelLost, 4) := by decide +kernel

/-! ### Levels and thermal estimate (chapters 3 and 4) -/

/-- Worked case "rise, latched ALARM, fall and acknowledgement": L after completions 3, 6, 12 and 13. -/
theorem test_rise_and_fall_of_T11 :
    let e := { XfEntry.factory with risePersistence := 3, fallPersistence := 4 }
    let a := [640, 590, 720, 650, 660, 700, 560, 250, 580, 100, 100, 100, 100].map (fun n => (false, n))
    ((evaluateRun e (a.take 3)).condition, (evaluateRun e (a.take 6)).condition, (evaluateRun e (a.take 12)).condition,
      (evaluateRun e a).condition) = (Level.alert, Level.alarm, Level.alarm, Level.quiet) := by decide

/-- R59: pickup levels 3, 3, 2, 3, 3 with L at QUIET and Nr of 5 set L to ALERT; and the record one evaluation before. -/
theorem test_run_floor :
    let e := { XfEntry.factory with risePersistence := 5 }
    let run := [(false, 600), (false, 600), (false, 300), (false, 600)]
    evaluateRun e run = { LevelRec.initial with rise := 4, runFloor := .alert, setUsed := .normal } ∧
    evaluateRun e (run ++ [(true, 600)]) = { LevelRec.initial with condition := .alert, setUsed := .storm } := by decide

/-- R60 and R61: a falling evaluation, the Nf-th of a run, and a steady one that ends a run. -/
theorem test_run_ceiling :
    let e := { XfEntry.factory with fallPersistence := 2 }
    let r := { LevelRec.initial with condition := .alarm }
    let one := evaluateLevels e false 280 r
    one = { r with fall := 1, runCeiling := .alert, setUsed := .normal } ∧
    evaluateLevels e false 0 one = { r with condition := .alert, setUsed := .normal } ∧
    evaluateLevels e false 570 one = { r with setUsed := .normal } := by decide

/-- Worked case "the second boundary of T2": the target and the update. -/
theorem test_second_boundary_of_T2 :
    (thermalTargetRaw (16210 / 50) 85, thetaStep 9 1900 2754, thetaStep 9 1986 2754) = (2754, 1902, 1988) := by decide

/-- Worked case "thermal levels with hysteresis", boundaries 1 to 9. -/
theorem test_thermal_levels_of_T13 :
    let level := thermalLevelOf XfEntry.factory
    [level 1950 .quiet, level 2010 .quiet, level 4050 .alert, level 3850 .alarm, level 3790 .alarm, level 1900 .alert,
        level 1790 .alert, level 4200 .quiet, level 1700 .alarm] =
      [.quiet, .alert, .alarm, .alarm, .alert, .alert, .quiet, .alarm, .quiet] := by decide

/-- The acknowledgement of T11's worked case: ALARM to QUIET, ALARM OUT released, data 1. -/
theorem test_acknowledge_one_flag :
    let t := ran (.acknowledge 1 7 [3]) { alarmed with pending := [] }
    ((t.xf 3).reported, (t.xf 3).unack, t.alarmOut, t.station.alertCount) = (Level.quiet, false, false, 0) := by
  decide +kernel

/-- R68: a completion that sets the flag of transformer 3 is kept when the request has passed it, and cleared before. -/
theorem test_completion_between_two_transformers :
    let e := { xf3Entry with slots := ⟨#[⟨some 4, 8⟩, ⟨none, 0⟩, ⟨none, 0⟩, ⟨none, 0⟩], rfl⟩, risePersistence := 1 }
    let block := PartEvent.frameArrival .a (frameBytes kindCycleBlock 0xBF 0x10 (blockBody 1001 786 801))
    let after := fun n : Nat =>
      let t := ran (.acknowledgeAll 1 7) { alarmed.setXfEntry 3 e with pending := [], inside := [⟨n, block⟩] }
      ((t.xf 3).unack, (t.xf 3).reported, t.alarmOut)
    (after 3, after 2) = ((true, Level.alarm, true), (false, Level.alarm, false)) := by decide +kernel

/-! ### Storm monitor (chapter 5) -/

/-- Worked case "a substorm onset", the rows of second 50,402. -/
theorem test_substorm_onset :
    let s := up.setStation
      { StationRec.initial with xRate := some (30, 36), yRate := some (-18, 37), latestNorm := some 36, watchRun := 2 }
    let t := rateNotice 36 .fieldX 40 s
    let u := rateNotice 37 .fieldY (-32) t
    (t.station.latestNorm, t.station.state, t.stormOut) = (some 46, StationState.watch, false) ∧
    (u.station.latestNorm, u.station.state, u.station.holdTimer, u.stormOut) =
      (some 52, StationState.storm, some 2700000, true) := by decide +kernel

/-- R103: the hold timer's expiry drops WATCH to CALM. -/
theorem test_hold_timer_expiry :
    let s := up.setStation { StationRec.initial with state := .watch, holdTimer := some 0 }
    (ran .holdTimerExpiry s).station.state = .calm ∧ (ran .holdTimerExpiry s).station.holdTimer = none := by
  decide +kernel

/-! ### Event queue, recorder, banks (chapters 6 to 8) -/

/-- Worked case "folds, the floor and two reads": record #1 after second 7,202. -/
theorem test_folds_of_channel_23 :
    let key := EventKey.channel 23
    let a := takeInto 7100 key 1 4 []
    let c := takeInto 7200 key 1 4 (takeInto 7101 key 4 1 a)
    takeInto 7202 key 4 5 c =
      [{ key := key, firstSecond := 7100, lastSecond := 7202, fromRank := 1, toRank := 5, peak := 5, changes := 4,
         priority := 2 }] := by decide

/-- Worked case "a reading session through a storm", steps 10 and 11. -/
theorem test_reading_session :
    let r := { Recorder.initial with run := 1633, held := 1028, filled := true, overrun := true }
    (r.readCase 1044, r.effectiveStart 1044, r.lostCount 1044) = (ReadCase.overrun, 1121, 77) ∧
    (r.readCase 2000, r.effectiveStart 2000) = (ReadCase.ahead, 1633) := by decide +kernel

/-- Worked case "the INPUT bank through a loss and a clear": the rows of 7,152 and 7,202. -/
theorem test_input_bank_takes_a_loss :
    let b := BankRec.empty.take 7152 .clipped 4
    let c := { b with overflow := true, count := 41 }
    b.count = 1 ∧ b.overflow = false ∧
    c.take 7202 .channelLost 23 = ⟨true, true, true, some .channelLost, 23, 7202, 42⟩ := by decide

/-- A transmission too short for a frame, which its port reports. -/
def shortFrame (port : Port) : PartEvent := .frameArrival port [0xB5, 0x4A, 0x21]

/-- R148: a report between banks 0 and 1 of a CLEAR BANK for all is kept in bank 0 and emptied in bank 1. -/
theorem test_reports_between_two_banks :
    let t := ran (.clearBank 1 7 [0xFF])
      { alarmed with pending := [], inside := [⟨0, shortFrame .a⟩, ⟨0, shortFrame .b⟩] }
    ((t.bank .linkA).code, (t.bank .linkA).count, (t.bank .linkB).valid, t.inside) =
      (some .badLength, 1, false, []) := by decide +kernel

/-- CLEAR BANK of a VALID bank and of an empty one. -/
theorem test_clear_bank :
    let t := ran (.clearBank 1 7 [0xFF]) { alarmed with pending := [] }
    t.bank .linkA = BankRec.empty ∧ t.bank .linkB = BankRec.empty := by decide +kernel

/-! ### Ports (chapter 9) -/

/-- Worked case "a response and a status frame through a busy port B": with the forward run at 8 the response goes. -/
theorem test_response_after_eight_forwards :
    let f := { FrameHandler.initial with aToB := [[9]], response := .ready [1], status := some [2], forwardRun := 8 }
    f.arbitrate =
      { f with response := .sending, txB := some (.response, [1]), forwardRun := 0 } := by decide

theorem test_port_a_transmit_completion :
    let s := up.setFrames { FrameHandler.initial with txA := some [1], bToA := [[2], [3]] }
    (ran .portATransmitCompletion s).frames = { FrameHandler.initial with txA := some [2], bToA := [[3]] } := by
  decide +kernel

theorem test_uptime_second_count : (ran .uptimeSecondCount up).clock.uptime = 1 := by decide +kernel

/-! ### Requests, table store and starts (chapter 10) -/

/-- READ SETUP is answered with code, tag, DONE, 0 and the image. -/
theorem test_read_setup :
    ((ran (.readSetup 1 7 []) up).frames.txB.map (fun p => (p.2.drop 7).take 16)) =
      some [1, 7, 0, 0, 50, 1, 2, 0, 20, 0, 50, 3, 0x84, 2, 0, 0] := by decide +kernel

/-- A setup write completes: the live record takes it, and the answer is composed. -/
theorem test_write_setup_completes :
    let t := ran (.writeSetup 1 7 (setupFieldBytes setup60)) up
    let u := ran .storeWriteCompletion t
    t.setup = Setup.factory ∧ u.setup = setup60 ∧ u.write = none ∧ u.frames.txB.isSome = true := by decide +kernel

/-- A power loss tears the write; the cold start restores the factory default and reports it. -/
theorem test_torn_setup_is_factory :
    let t := ran (.writeSetup 1 7 (setupFieldBytes setup60)) up
    let u := ran (.coldStart 5) (ran .powerLoss t)
    u.setup = Setup.factory ∧ (u.bank .table).code = some .setupCheckFail ∧ u.stationAddress = 0x85 := by
  decide +kernel

theorem test_restore_completion : (ran .restoreCompletion State.reset).phase = .running := by decide +kernel

theorem test_reset_asserted : (ran (.resetAsserted .full) up).phase = .heldInReset := by decide +kernel

/-! ### Witnesses: the queue of commands -/

/-- A part that stands still, one with nothing due, one with each expiry due, and one with three due at once. -/
theorem witness_idle_step :
    let stale := oneChannel.setChannel 4 { record4 with staleTimer := some 0, lostTimer := some 0 }
    let lost := oneChannel.setChannel 4 { record4 with lostTimer := some 0 }
    let hold := up.setStation { StationRec.initial with state := .storm, holdTimer := some 0 }
    State.reset.pending = [] ∧ State.reset.phase ≠ .running ∧ up.pending = [] ∧ up.phase = .running ∧
    dueCommands up = [] ∧ stale.Due (.staleTimerExpiry 4) ∧ (idle stale).pending = [.staleTimerExpiry 4] ∧
    lost.Due (.lostTimerExpiry 4) ∧ (idle lost).pending = [.lostTimerExpiry 4] ∧
    hold.Due .holdTimerExpiry ∧ (idle hold).pending = [.holdTimerExpiry] ∧
    ({ up with clock := { up.clock with subTick := 3000 } } : State).Due .uptimeSecondCount ∧
    ¬({ up with clock := { up.clock with subTick := 2999 } } : State).Due .uptimeSecondCount ∧
    ({ up with clock := { up.clock with statusDue := true } } : State).Due .statusTimerExpiry := by
  unfold State.Due
  decide +kernel

/-- The invariants' hypotheses on one state at work, whose next step answers a state. -/
theorem witness_invariants :
    alarmed.queue.Law ∧ alarmed.BanksLaw ∧ alarmed.OutputsLaw ∧ alarmed.SlotLaw ∧ alarmed.ChannelTimersLaw ∧
    alarmed.ServiceLaw ∧ alarmed.StationLaw ∧ alarmed.LevelLaw ∧ alarmed.RunLaw ∧ alarmed.ThermalLaw ∧
    alarmed.recorder.Law ∧
    ∃ t, step alarmed = .next t := by
  refine ⟨?_, ?_, ?_, ?_, ?_, ?_, ?_, ?_, ?_, ?_, ?_, _, rfl⟩
  · unfold EventQueue.Law EventRec.Law; decide +kernel
  · intro b; cases b <;> refine ⟨by decide +kernel, fun h => ?_⟩
    · exact ⟨⟨.crcFail, by decide +kernel⟩, by decide +kernel⟩
    all_goals revert h; decide +kernel
  · unfold State.OutputsLaw; decide +kernel
  · refine ⟨by unfold FrameHandler.Law; decide +kernel, by decide +kernel, fun h => ?_⟩
    exact absurd h (by decide +kernel)
  · unfold State.ChannelTimersLaw; decide +kernel
  · refine ⟨by decide +kernel, fun w h => ?_⟩
    revert h; exact fun h => nomatch h
  · unfold State.StationLaw; decide +kernel
  · unfold State.LevelLaw; decide +kernel
  · unfold State.RunLaw; decide +kernel
  · unfold State.ThermalLaw; decide +kernel
  · exact ⟨by decide +kernel, by decide +kernel, fun i h1 h0 => absurd (Nat.le_trans h1 h0) (by decide +kernel)⟩

theorem witness_settled_state :
    ∃ t, exec (.uptimeSecondCount) up = .next t ∧ Instr.uptimeSecondCount ≠ .storeWriteCompletion ∧
      Instr.uptimeSecondCount ≠ .portBTransmitCompletion ∧ Instr.uptimeSecondCount ≠ .powerLoss ∧
      (∀ straps, Instr.uptimeSecondCount ≠ .coldStart straps) ∧
      ∀ spell, Instr.uptimeSecondCount ≠ .resetAsserted spell :=
  ⟨_, rfl, by simp, by simp, by simp, by simp, by simp⟩

/-! ### Witnesses: requests -/

theorem witness_serving : up.Serving := ⟨rfl, rfl⟩

/-- The boundaries of the two index ranges and of the three subjects. -/
theorem witness_read_indices :
    (39 : Byte).toNat < 40 ∧ 40 ≤ (40 : Byte).toNat ∧ (15 : Byte).toNat < 16 ∧ 16 ≤ (16 : Byte).toNat ∧
    (1 : Byte) ≠ 0 ∧ (4 : Byte) ≠ 1 ∧ (4 : Byte) ≠ 2 ∧ (4 : Byte) ≠ 3 := by decide

theorem witness_write_setup :
    up.Serving ∧ (setupFieldBytes setup60).length = 10 ∧ setup60.InRange ∧
    up.setup.guardSpan ≠ .all ∧ u8 (setupFieldBytes setup60) 0 ≠ up.setup.freq ∧ (oneChannel.channel 4).state ≠ .off ∧
    oneChannel.setup.guardSpan ≠ .all ∧ (∀ c : Channel, (up.channel c).state = .off) ∧
    setupFieldFault (setupFieldBytes { setup60 with quorum := 17 }) = some 7 ∧
    ({ up with setup := { up.setup with guardSpan := .all } } : State).setup.guardSpan = .all := by
  unfold Setup.InRange State.Serving
  decide +kernel

theorem witness_write_channel :
    let e : ChannelEntry := { ChannelEntry.factory with sensorId := 312, input := 15, gain := 1, offset := -32767 }
    up.Serving ∧ (channelFieldBytes e).length = 12 ∧ e.InRange ∧
    GuardSpan.topQuarter.guardsChannel 30 = true ∧ GuardSpan.topQuarter.guardsChannel 29 = false ∧
    (oneChannel.channel 4).state ≠ .off ∧ (oneChannel.channel 5).state = .off ∧
    channelFieldFault (channelFieldBytes { e with lostLimit := 9 }) = some 8 ∧
    ((5 : Channel) ≠ 4 ∧ (oneChannel.channelEntry 4).sensorId = 312 ∧ (oneChannel.channelEntry 4).input = 0) ∧
    (oneChannel.setXfEntry 3 xf3Entry).xfEntry 3 = xf3Entry ∧ xf3Entry.slots[(0 : Slot)].channel = some 4 := by
  unfold ChannelEntry.InRange State.Serving
  decide +kernel

/-- The detail of the BAD VALUE that answers a request; none for another answer. -/
def badValueDetail (i : Instr) : Option Byte :=
  match (ran i up).frames.txB with
  | some (_, frame) => if frame.getD 9 0 = 8 then some (frame.getD 10 0) else none
  | none => none

/-- R96 and R170: the first field out of range, each range just left, and all in range. -/
theorem test_write_setup_ranges :
    let detail := fun e : Setup => badValueDetail (.writeSetup 1 7 (setupFieldBytes e))
    [detail { setup60 with freq := 51, quorum := 17 }, detail { setup60 with statusInterval := 61 },
        detail { setup60 with captureLevel := 5 }, detail { setup60 with watchRate := 0 },
        detail { setup60 with watchRate := 65535 }, detail { setup60 with holdTime := 59 },
        detail { setup60 with holdTime := 7201 }, detail { setup60 with quorum := 17 }] =
      [some 1, some 2, some 3, some 4, some 5, some 6, some 6, some 7] ∧
    detail { setup60 with holdTime := 7200 } = none := by decide +kernel

/-- R1 and R2: the first field out of range, each range just left, and all in range. -/
theorem test_write_channel_ranges :
    let detail := fun e : ChannelEntry => badValueDetail (.writeChannel 1 7 (4 :: channelFieldBytes e))
    badValueDetail (.writeChannel 1 7 (4 :: 3 :: (channelFieldBytes entry4).drop 1)) = some 1 ∧
    [detail { entry4 with input := 16, gain := 0 }, detail { entry4 with gain := 0 },
        detail { entry4 with offset := -32768 }, detail { entry4 with shift := 8 }, detail { entry4 with lostLimit := 9 },
        detail { entry4 with lostLimit := 3001 }] = [some 3, some 4, some 5, some 7, some 8, some 8] ∧
    detail { entry4 with input := 15, lostLimit := 3000 } = none := by decide +kernel

/-- R30, R53, R54 and R79: fields out of range, with the two examples of R53. -/
theorem test_write_transformer_ranges :
    let detail := fun e : XfEntry => badValueDetail (.writeTransformer 1 7 (3 :: xfFieldBytes e))
    let slot := fun m : MemberSlot => { xf3Entry with slots := ⟨#[⟨none, 0⟩, ⟨none, 0⟩, ⟨none, 0⟩, m], rfl⟩ }
    [detail (slot ⟨some 4, 9⟩), detail (slot ⟨some 4, 0⟩), detail (slot ⟨none, 1⟩),
        detail { xf3Entry with normal := ⟨300, 300, 600, 30⟩ }, detail { xf3Entry with normal := ⟨300, 400, 500, 300⟩ },
        detail { xf3Entry with fallPersistence := 3001 }, detail { xf3Entry with coefficient := 4096 },
        detail { xf3Entry with alertLimit := 199 }, detail { xf3Entry with alertLimit := 65535, alarmLimit := 65535 }] =
      [some 8, some 8, some 8, some 10, some 12, some 18, some 20, some 22, some 23] ∧
    detail xf3Entry = none := by decide +kernel

/-- R175 at its boundary indices. -/
theorem test_guard_spans :
    GuardSpan.topQuarter.guardsChannel 30 = true ∧ GuardSpan.topQuarter.guardsChannel 29 = false ∧
    GuardSpan.topHalf.guardsChannel 20 = true ∧ GuardSpan.topHalf.guardsChannel 19 = false ∧
    GuardSpan.topQuarter.guardsXf 12 = true ∧ GuardSpan.topQuarter.guardsXf 11 = false ∧
    GuardSpan.topHalf.guardsXf 8 = true ∧ GuardSpan.topHalf.guardsXf 7 = false ∧
    GuardSpan.all.guardsChannel 0 = true ∧ GuardSpan.all.guardsXf 0 = true ∧
    GuardSpan.none.guardsChannel 39 = false ∧ GuardSpan.none.guardsXf 15 = false := by decide

/-- An entry in range whose first two slots name one channel. -/
def twiceNamed : XfEntry := { xf3Entry with slots := ⟨#[⟨some 4, -8⟩, ⟨some 4, 8⟩, ⟨none, 0⟩, ⟨none, 0⟩], rfl⟩ }

theorem witness_write_transformer :
    up.Serving ∧ (xfFieldBytes twiceNamed).length = 35 ∧ twiceNamed.InRange ∧ xf3Entry.InRange ∧
    GuardSpan.topQuarter.guardsXf 12 = true ∧ GuardSpan.topQuarter.guardsXf 11 = false ∧
    (alarmed.xf 3).inService = true ∧ (up.xf 3).inService = false ∧
    xfFieldFault (xfFieldBytes { twiceNamed with alarmLimit := 2000 }) = some 23 := by
  unfold XfEntry.InRange MemberSlot.InRange ThresholdSet.InRange State.Serving
  decide +kernel

/-- The slot of an entry that names a channel the second time is refused, the slot that names it first is not. -/
theorem witness_slot_refused : up.SlotRefused 3 twiceNamed 1 ∧ ¬up.SlotRefused 3 twiceNamed 0 := by
  refine ⟨⟨4, by decide +kernel, .inr (.inl ⟨0, by decide, by decide +kernel⟩)⟩, ?_⟩
  rintro ⟨c, hc, h⟩
  obtain rfl : (4 : Channel) = c := by simpa [twiceNamed] using hc
  rcases h with h | ⟨k, h, -⟩ | ⟨o, k, -, h⟩
  · exact h (by decide +kernel)
  · exact absurd h (Fin.not_lt_zero k)
  · revert o k; decide +kernel

theorem witness_set_service :
    up.Serving ∧ (3 : Byte) ≠ 1 ∧ (3 : Byte) ≠ 2 ∧ 40 ≤ (40 : Byte).toNat ∧ 16 ≤ (16 : Byte).toNat ∧
    (4 : Byte).toNat = (4 : Channel).val ∧ (3 : Byte).toNat = (3 : Xf).val ∧ 1 < (2 : Byte).toNat ∧
    up.setup.guardSpan.guardsChannel 4 = false ∧ up.setup.guardSpan.guardsXf 3 = false ∧
    GuardSpan.topHalf.guardsChannel 20 = true ∧ GuardSpan.topHalf.guardsXf 8 = true ∧
    (up.channelEntry 4).sensorId = 0 ∧ (up.channel 4).state = .off ∧
    (oneChannel.channelEntry 4).sensorId ≠ 0 ∧ (oneChannel.channel 4).state ≠ .off ∧
    (up.xfEntry 3).slots[(0 : Slot)].channel = none ∧ (alarmed.xfEntry 3).slots[(0 : Slot)].channel = some 4 ∧
    (alarmed.xf 3).inService = true ∧ (up.xf 3).inService = false := by
  unfold State.Serving
  decide +kernel

theorem witness_set_guard :
    up.Serving ∧ ({ up with setup := { up.setup with lockFlag := true } } : State).setup.lockFlag = true ∧
    ¬(up.setup.lockFlag = true ∧ true = true) ∧ 4 ≤ (4 : Byte).toNat ∧ (3 : Byte).toNat < 4 ∧ 2 ≤ (2 : Byte).toNat ∧
    (3 : Byte).toNat = GuardSpan.all.code ∧ (1 : Byte).toNat < 2 := by
  unfold State.Serving
  decide +kernel

theorem witness_acknowledge :
    alarmed.Serving ∧ alarmed.inside = [] ∧ alarmed.OutputsLaw ∧ 16 ≤ (16 : Byte).toNat ∧
    (254 : Byte).toNat < 255 ∧ (3 : Byte).toNat = (3 : Xf).val ∧
    (alarmed.xf 3).inService = true ∧ (alarmed.xf 3).unack = true ∧ (alarmed.xf 3).reported = .alarm ∧
    ((alarmed.xf 2).inService && (alarmed.xf 2).unack) = false ∧
    (∀ x : Xf, (alarmed.xf x).inService = true → (alarmed.xf x).unack = true → (alarmed.xf x).reported = .alarm) := by
  unfold State.Serving State.OutputsLaw
  decide +kernel

/-- An event inside a request that is in hand, and the row of its name. -/
theorem witness_event_inside :
    let s := up.setFrames { up.frames with response := .pending ⟨1, [0x08, 7, 0xFF]⟩ }
    s.frames.response = .pending ⟨1, [0x08, 7, 0xFF]⟩ ∧ s.frames.txB = none ∧
    ((takeEvent (.frameArrival .b (frameBytes kindRequest 0xBF 1 [0x01, 7])) s).bank .linkB).code = some .requestOverrun :=
  ⟨rfl, rfl, by decide +kernel⟩

theorem witness_events_and_floor :
    up.Serving ∧ 1 ≤ (1 : Byte).toNat ∧ (8 : Byte).toNat ≤ 8 ∧ 9 ≤ (9 : Byte).toNat ∧ 4 ≤ (4 : Byte).toNat ∧
    (3 : Byte).toNat ≤ 3 := by
  unfold State.Serving
  decide +kernel

/-- READ CAPTURE's premises, the three read cases at their boundaries among them. -/
theorem witness_read_capture :
    up.Serving ∧ up.recorder.Law ∧ 1 ≤ (1 : Byte).toNat ∧ (16 : Byte).toNat ≤ 16 ∧ 17 ≤ (17 : Byte).toNat ∧
    (let r := { Recorder.initial with run := 1633, filled := true }
     r.readCase 1121 = .current ∧ r.readCase 1120 = .overrun ∧ r.readCase (1633 + 2147483648) = .ahead) := by
  refine ⟨⟨rfl, rfl⟩, ⟨by decide +kernel, by decide +kernel, fun i h1 h0 => ?_⟩, by decide +kernel⟩
  exact absurd (Nat.le_trans h1 h0) (by decide +kernel)

theorem witness_banks :
    alarmed.Serving ∧ alarmed.inside = [] ∧ (6 : Byte).toNat = BankId.output.index.val ∧ 7 ≤ (7 : Byte).toNat ∧ (254 : Byte).toNat ≤ 254 ∧
    (alarmed.bank .linkA).valid = true := by
  unfold State.Serving
  decide +kernel

theorem witness_send_status :
    up.Serving ∧ up.frames.status = none ∧
    (up.setFrames { up.frames with status := some [1], txB := some (.forward, [2]) }).Serving := by
  unfold State.Serving
  decide +kernel

theorem witness_request_checks :
    requestOf (.setGuard 1 7 [0, 0] true) = some ⟨1, [0x0F, 7, 0, 0]⟩ ∧ State.reset.phase = .restoring ∧
    State.reset.frames.response = .free ∧
    (up.setFrames { up.frames with response := .sending, txB := some (.response, [1]) }).frames.response ≠ .free ∧
    heldState.phase = .heldInReset ∧ bodyLength (u8 [0x0F, 7, 0] 0) = some 4 ∧ [0x0F, 7, 0].length ≠ 4 ∧
    ([] : List Byte).length < 2 ∧ 2 ≤ ([0x12, 7] : List Byte).length ∧ bodyLength (u8 [0x12, 7] 0) = none ∧
    ([0x0F, 7, 0, 0] : List Byte).length ≤ 1024 := by
  decide +kernel

/-- R158 and R168: a REQUEST frame that names no request, one with an empty body, and the first with the slot occupied. -/
theorem test_request_frames_that_name_no_request :
    let frame := fun body : List Byte => Instr.frameArrival .b (frameBytes kindRequest 0xBF 1 body) false
    let answer := fun body : List Byte =>
      (ran (frame body) State.reset).frames.txB.map (fun p => (p.2.drop 7).take 4)
    let occupied := up.setFrames { up.frames with response := .sending, txB := some (.response, [1]) }
    let overrun := (ran (frame [0x12, 7]) occupied).bank .linkB
    State.reset.stationAddress = 0xBF ∧ answer [0x12, 7] = some [0x12, 7, 1, 0] ∧ answer [] = some [0, 0, 1, 0] ∧
    (overrun.code, overrun.subject) = (some .requestOverrun, 1) := by
  decide +kernel

/-! ### Witnesses: frames -/

/-- Each of the four placements, and a failed transmission. -/
theorem witness_frames_placed :
    checkFrame (frameBytes 0x31 0xBF 1 [1, 7]) = .ok ⟨0x31, 0xBF, 1, [1, 7]⟩ ∧ up.stationAddress = 0xBF ∧
    checkFrame (frameBytes 0x41 0xBF 1 []) = .ok ⟨0x41, 0xBF, 1, []⟩ ∧
    checkFrame (frameBytes 0x32 0x01 0x90 [1]) = .ok ⟨0x32, 0x01, 0x90, [1]⟩ ∧
    checkFrame [0xB5, 0x4A, 0x21] = .error .badLength ∧
    checkFrame ([0xB5, 0x4A, 0x21, 1, 2, 4, 1] ++ [0, 0]) = .error .oversize ∧
    checkFrame [0xB5, 0x4A, 0x21, 1, 2, 0, 0, 0, 0] = .error .crcFail := by
  decide +kernel

/-- R152: the four checks at their edges: a length field of 1025 and of 1024, 1034 bytes, one byte too few, a wrong CRC. -/
theorem test_reception_checks :
    let frame := fun (n : Nat) (rest : List Byte) => checkFrame ([0xB5, 0x4A, 0x32, 1, 2] ++ be16 n ++ rest)
    let good := frameBytes 0x32 1 2 (List.replicate 1024 7)
    checkFrame [0xB5, 0x4B, 0x32, 1, 2, 0, 0, 0, 0] = .error .badLength ∧
    frame 1025 [0, 0] = .error .oversize ∧ frame 1024 [0, 0] = .error .badLength ∧
    good.length = 1033 ∧ checkFrame (good ++ [0]) = .error .oversize ∧
    frame 1 [0, 0] = .error .badLength ∧ frame 0 [0, 0] = .error .crcFail ∧
    checkFrame good = .ok ⟨0x32, 1, 2, List.replicate 1024 7⟩ := by
  decide +kernel

/-- A cycle block for the part, and one whose body is malformed. -/
theorem witness_cycle_block :
    checkFrame (frameBytes 0x21 0xBF 0x10 (blockBody 1001 786 801)) = .ok ⟨0x21, 0xBF, 0x10, blockBody 1001 786 801⟩ ∧
    checkFrame (frameBytes 0x21 0x01 0x10 [1]) = .ok ⟨0x21, 0x01, 0x10, [1]⟩ ∧
    ¬(5 ≤ ([1] : List Byte).length) := by
  decide +kernel

/-- A block of two inputs, 0 and 1, of the source 312 in cycle 1001. -/
def twoInputs : List Byte :=
  be16 312 ++ be16 1001 ++ [2] ++ ([0, 1] : List Byte).flatMap (fun n => n :: (List.replicate 32 (signed16 801)).flatten)

/-- R5 and R9: a well-formed block of two inputs, whose second input is matched or ignored, and one that nobody holds. -/
theorem witness_inputs_in_order :
    let s := (oneChannel.setChannelEntry 5 { entry4 with input := 1 }).setChannel 5 record4
    let after := fun s : State =>
      let t := examineBlock twoInputs s
      ((t.channel 4).lastCycle, (t.channel 5).lastCycle)
    twoInputs.length = 5 + 65 * u8 twoInputs 4 ∧ u8 twoInputs 4 = 2 ∧ s.phase = .running ∧
    after s = (some 1001, some 1001) ∧ after oneChannel = (some 1001, none) ∧
    (blockBody 1001 786 801).length = 70 ∧ u8 (blockBody 1001 786 801) 4 = 1 ∧
    (∀ c : Channel, (up.channelEntry c).sensorId ≠ 312) := by
  decide +kernel

/-- The premises of the statements on a block of one input: an old one and a break, at their edges. -/
theorem witness_block_for :
    oneChannel.BlockFor 4 (blockBody 936 786 801) ∧
    (oneChannel.channel 4).state ≠ .lost ∧ (oneChannel.channel 4).lastCycle = some 1000 ∧
    cycleDistance 1000 (blockCycle (blockBody 936 786 801)) = -64 ∧
    cycleDistance 1000 (blockCycle (blockBody 1000 786 801)) = 0 ∧
    cycleDistance 1000 (blockCycle (blockBody 1005 786 801)) = 5 ∧
    cycleDistance 1000 (blockCycle (blockBody 935 786 801)) = -65 := by
  unfold State.BlockFor State.Matches
  decide +kernel

/-- A LOST channel that a block can reach. -/
def lostChannel : State :=
  oneChannel.setChannel 4 { record4 with state := .lost, output := 0, staleTimer := none, lostTimer := none }

/-- R10 and R17: a break from VALID is reported and a block in LOST is not; each enters SETTLING with its change. -/
theorem witness_reseeding_blocks :
    let broken := ran (blockFor oneChannel 1005 786 801) oneChannel
    let found := ran (blockFor lostChannel 1005 786 801) lostChannel
    let change := fun (from_ : Nat) => [newRecord 0 (.channel 4) from_ ChannelState.settling.rank]
    lostChannel.BlockFor 4 (blockBody 1005 786 801) ∧ (lostChannel.channel 4).state = .lost ∧
    ((broken.bank .input).code, (broken.bank .input).subject) = (some .sequenceBreak, 4) ∧
    broken.queue.records.head? = some (newRecord 0 (.fault .input) 0 1) ∧
    broken.queue.records.tail = change ChannelState.valid.rank ∧
    (found.bank .input).valid = false ∧ found.queue.records = change ChannelState.lost.rank ∧
    (found.channel 4).state = .settling := by
  unfold State.BlockFor State.Matches
  decide +kernel

/-- The premises of an accepted block: the first of a reseed, and one that continues the sequence by 1 and by 4. -/
theorem witness_accepted_block :
    oneChannel.BlockFor 4 (blockBody 1001 786 801) ∧
    (let s := oneChannel.setChannel 4 { record4 with state := .settling, lastCycle := none }
     s.BlockFor 4 (blockBody 1001 786 801) ∧ (s.channel 4).state = .settling ∧ (s.channel 4).lastCycle = none) ∧
    (oneChannel.channel 4).lastCycle = some 1000 ∧
    cycleDistance 1000 (blockCycle (blockBody 1001 786 801)) = ((0 + 1 : Nat) : Int) ∧
    cycleDistance 1000 (blockCycle (blockBody 1004 786 801)) = ((3 + 1 : Nat) : Int) := by
  unfold State.BlockFor State.Matches
  decide +kernel

/-- R13, R14 and R16: the changes of state that an accepted block brings, each at the edge of its count. -/
theorem test_state_changes_of_accepted_blocks :
    let after := fun (r : ChannelRec) (first : Int) =>
      let t := (ran (blockFor oneChannel 1001 first 801) (oneChannel.setChannel 4 r)).channel 4
      (t.state, t.degraded, t.good)
    after { record4 with degraded := 7, good := 0 } (-32768) = (.suspect, 0, 0) ∧
    after { record4 with degraded := 6, good := 0 } (-32768) = (.valid, 7, 0) ∧
    after { record4 with state := .suspect, good := 3 } 786 = (.valid, 0, 0) ∧
    after { record4 with state := .settling, settle := 1 } 786 = (.valid, 0, 0) ∧
    after { record4 with state := .settling, settle := 1 } (-32768) = (.settling, 1, 0) ∧
    after { record4 with state := .stale, good := 9, staleTimer := none } (-32768) = (.valid, 1, 0) := by
  decide +kernel

/-- R16, R18, R21 and R26: an accepted block's reports, each with the channel as its subject, and its CHANNEL change. -/
theorem test_reports_of_accepted_blocks :
    let after := fun (e : ChannelEntry) (r : ChannelRec) (first : Int) =>
      ran (blockFor oneChannel 1001 first 801) ((oneChannel.setChannelEntry 4 e).setChannel 4 r)
    let held := fun (t : State) (b : BankId) => ((t.bank b).code, (t.bank b).subject)
    held (after entry4 record4 (-32768)) .input = (some .invalidSamples, 4) ∧
    held (after entry4 record4 32767) .input = (some .clipped, 4) ∧
    held (after { entry4 with gain := 65535 } record4 786) .compute = (some .channelClamp, 4) ∧
    (after entry4 { record4 with state := .suspect, good := 3 } 786).queue.records =
      [newRecord 0 (.channel 4) ChannelState.suspect.rank ChannelState.valid.rank] := by
  decide +kernel

/-- R25: the three missing cycles of a FIELD channel are given to its per-second step, and the block after them. -/
theorem test_missing_cycles_of_a_field_channel :
    let second := { FieldSecond.cleared with count := 48 }
    let s := (oneChannel.setChannelEntry 4 { entry4 with kind := .fieldX }).setChannel 4 { record4 with second := second }
    let t := (ran (blockFor s 1004 786 801) s).channel 4
    (t.second.count, t.second.latestMean.isSome, t.lastCycle) = (2, true, some 1004) := by
  decide +kernel

/-- A FIELD X channel before the F-th output of a second, without and with a mean of the second before. -/
theorem witness_field_seconds :
    let entry := { entry4 with kind := .fieldX }
    let record := { record4 with second := { FieldSecond.cleared with count := 49 } }
    let s := (up.setChannelEntry 4 entry).setChannel 4 record
    (s.channelEntry 4).kind ≠ .neutral ∧ (s.channel 4).state = .valid ∧
    (s.channel 4).second.count + 1 = s.setup.freq ∧ (s.channel 4).second.latestMean = none ∧
    (oneChannel.channel 4).second.count + 1 ≠ oneChannel.setup.freq ∧
    (let u := s.setChannel 4 { record with second := { record.second with sum := 1 - 345, latestMean := some 40000 } }
     (u.channel 4).second.latestMean = some 40000 ∧
     ((fieldOutput 4 u).channel 4).second.latestRate = some (-32767) ∧ (fieldOutput 4 u).station.latestNorm = some 32767) ∧
    (oneChannel.channelEntry 4).kind = .neutral := by decide +kernel

theorem witness_channel_timers :
    (oneChannel.channel 4).staleTimer.isSome = true ∧ (oneChannel.channel 4).lostTimer.isSome = true ∧
    oneChannel.memberMap[(4 : Channel)] = none ∧ (up.channel 4).staleTimer = none ∧ (up.channel 4).lostTimer = none ∧
    oneChannel.phase = .running := by decide +kernel

/-! ### Witnesses: evaluator, thermal unit, storm monitor -/

/-- The five ways in which a block arrives, at the edges of the distance from cycle 7. -/
theorem witness_assembly :
    alarmed.memberMap[(4 : Channel)] = some (3, 0) ∧ alarmed.memberMap[(5 : Channel)] = none ∧
    (alarmed.xf 3).inService = true ∧ (alarmed.xf 3).pendingCycle = none ∧ (alarmed.xf 3).lastCompleted = none ∧
    (oneChannel.xf 3).inService = false ∧
    (let s := alarmed.mapXf 3 (fun r => { r with pendingCycle := some 7, lastCompleted := some 7 })
     (s.xf 3).pendingCycle = some 7 ∧ cycleDistance 7 7 = 0 ∧ 0 < cycleDistance 7 8 ∧ cycleDistance 7 6 < 0 ∧
     cycleDistance 7 (7 + 32768) < 0 ∧ 0 < cycleDistance 7 (7 + 32767) ∧
     ((blockArrival 4 8 s).bank .assembly).count = 1 ∧ ((blockArrival 4 8 s).xf 3).lastCompleted = some 8 ∧
     ((blockArrival 4 6 s).bank .assembly).code = some .lateBlock) := by decide +kernel

/-- A shrinkage to an empty wait set, one that leaves a marked and one that leaves an unmarked slot, and a growth. -/
theorem witness_member_notice :
    let e := { xf3Entry with slots := ⟨#[⟨some 4, 4⟩, ⟨some 5, 4⟩, ⟨none, 0⟩, ⟨none, 0⟩], rfl⟩ }
    let s := alarmed.mapChannel 4 (fun r => { r with state := .stale })
    let two := fun marked : Bool => (s.setXfEntry 3 e).setXf 3
      { xf3 with waitSet := ⟨#[true, true, false, false], rfl⟩, pendingCycle := some 7
                 marked := ⟨#[false, marked, false, false], rfl⟩ }
    let grown := alarmed.setXf 3 { xf3 with waitSet := SlotSet.empty, quality := .noData }
    s.memberMap[(4 : Channel)] = some (3, 0) ∧ (s.xf 3).inService = true ∧
    ((channelNotice 4 s).bank .assembly).code = some .noData ∧ ((channelNotice 4 s).xf 3).quality = .noData ∧
    ((channelNotice 4 (two true)).xf 3).lastCompleted = some 7 ∧
    ((channelNotice 4 (two false)).xf 3).pendingCycle = some 7 ∧
    ((channelNotice 4 (two false)).xf 3).quality = .degraded ∧
    ((channelNotice 4 grown).xf 3).waitSet = ⟨#[true, false, false, false], rfl⟩ ∧
    ((channelNotice 4 grown).xf 3).quality = .noData := by decide +kernel

/-- A second boundary with the coefficient 0 and others, the clamp's product just reached and just missed, a level that
changes, and the capture test passed and failed. -/
theorem witness_second_boundary :
    let s := fun c => alarmed.setXfEntry 3 { xf3Entry with coefficient := c, shift := 0 }
    (XfEntry.factory.coefficient = 0 ∧ ((s 640).xfEntry 3).coefficient ≠ 0) ∧
    ((thermalBoundary 3 (1024 * 50) (s 640)).bank .compute).code = some .thermalClamp ∧
    ((thermalBoundary 3 (1023 * 50) (s 640)).bank .compute).valid = false ∧
    ((thermalBoundary 3 (1024 * 50) (s 640)).xf 3).thermal = .alarm ∧
    (thermalBoundary 3 0 (s 0)).recorder.run = 1 ∧ (thermalBoundary 2 0 (s 0)).recorder.run = 0 ∧
    ((s 0).xf 3).reported ≠ Level.higher ((s 0).xf 3).levels.condition ((s 0).xf 3).thermal := by decide +kernel

/-- A completion of good quality and one of degraded quality. -/
theorem witness_completion :
    let s := alarmed.mapXf 3 (fun r => { r with marked := ⟨#[true, false, false, false], rfl⟩, pendingCycle := some 7 })
    (∀ (j : Slot) (c : Channel), (s.xfEntry 3).slots[j].channel = some c →
      (s.channel c).state = .valid ∧ (s.xf 3).marked[j] = true ∧ (s.channel c).clipped = false) ∧
    ((alarmed.xfEntry 3).slots[(0 : Slot)].channel = some 4 ∧ (alarmed.xf 3).marked[(0 : Slot)] = false) ∧
    ((complete 3 s).xf 3).quality = .good ∧ ((complete 3 alarmed).xf 3).quality = .degraded := by decide +kernel

/-- R44 and R46: the F-th completion of a second, which the recorder takes a record of, and one before it; and a clamp. -/
theorem witness_completion_of_a_second :
    let s := fun count : Nat => alarmed.mapXf 3 (fun r => { r with secondCount := count })
    let heavy := { xf3Entry with slots := ⟨#[⟨some 4, 127⟩, ⟨none, 0⟩, ⟨none, 0⟩, ⟨none, 0⟩], rfl⟩ }
    let clamped := complete 3 (alarmed.setXfEntry 3 heavy)
    ((s 49).xf 3).secondCount + 1 = (s 49).setup.freq ∧
    (complete 3 (s 49)).recorder.run = 1 ∧ ((complete 3 (s 49)).xf 3).secondCount = 0 ∧
    (complete 3 (s 48)).recorder.run = 0 ∧ ((complete 3 (s 48)).xf 3).secondSum = 345 ∧
    ((clamped.bank .compute).code, (clamped.bank .compute).subject, (clamped.xf 3).current) =
      (some .transformerClamp, 3, 5000) := by decide +kernel

/-- An entry in range whose runs are the shortest, a rise at one evaluation and a fall at one. -/
theorem witness_level_moves :
    let e := { XfEntry.factory with risePersistence := 1, fallPersistence := 1 }
    e.InRange ∧ (evaluateRun e []).condition.num < (evaluateRun e ([] ++ [(false, 600)])).condition.num ∧
    (evaluateRun e ([(false, 600)] ++ [(true, 0)])).condition.num < (evaluateRun e [(false, 600)]).condition.num := by
  unfold XfEntry.InRange MemberSlot.InRange ThresholdSet.InRange
  decide

theorem witness_thresholds : ThresholdSet.InRange { p1 := 1, p2 := 2, p3 := 5000, h := 0 } := by
  unfold ThresholdSet.InRange
  decide

/-- The thermal bands of the factory default entry, whose limits are 2000 and 4000, at their edges. -/
theorem witness_thermal_bands :
    XfEntry.factory.InRange ∧ XfEntry.factory.alarmLimit = 4000 ∧ XfEntry.factory.alertLimit = 2000 ∧
    (let level := thermalLevelOf XfEntry.factory
     [level 4000 .quiet, level 3999 .quiet, level 1999 .quiet, level 1800 .alert, level 1799 .alert, level 3800 .alarm,
         level 3799 .alarm, level 1799 .alarm] =
       [.alarm, .alert, .quiet, .alert, .quiet, .alarm, .alert, .quiet]) := by
  unfold XfEntry.InRange MemberSlot.InRange ThresholdSet.InRange
  decide

/-- The edges of the two rates, 20 and 50, in each state of the station. -/
theorem witness_rate_notices :
    let station := fun (state : StationState) (run : Nat) (hold : Option Nat) =>
      up.setStation { StationRec.initial with state := state, watchRun := run, holdTimer := hold }
    let after := fun (s : State) (rate : Int) => (rateNotice 36 .fieldX rate s).station
    ChannelKind.fieldX ≠ .neutral ∧
    (after (station .calm 0 none) 50).state = .storm ∧ (after (station .calm 2 none) 49).state = .watch ∧
    (after (station .calm 1 none) 20).watchRun = 2 ∧ (after (station .calm 2 none) 19).watchRun = 0 ∧
    (after (station .watch 0 (some 5)) 50).state = .storm ∧
    (after (station .watch 0 (some 5)) 20).holdTimer = some 2700000 ∧
    (after (station .watch 0 (some 5)) 19).holdTimer = some 5 ∧
    (after (station .storm 0 (some 5)) 50).holdTimer = some 2700000 ∧
    (after (station .storm 0 (some 5)) 49).holdTimer = some 5 ∧
    (after (station .storm 0 none) 50).holdTimer = none := by decide +kernel

/-- The quorum of 2 as it is met, kept, ended and not met. -/
theorem witness_level_notices :
    let station := fun (state : StationState) (count : Nat) (met : Bool) =>
      up.setStation { StationRec.initial with state := state, alertCount := count, quorumMet := met }
    (levelNotice .watch .alert (station .calm 1 false)).station.state = .storm ∧
    (levelNotice .watch .alert (station .storm 1 false)).station.quorumMet = true ∧
    (levelNotice .alert .watch (station .storm 2 true)).station.quorumMet = false ∧
    (levelNotice .alert .alarm (station .storm 2 true)).station.quorumMet = true ∧
    (levelNotice .quiet .alert (station .calm 0 false)).station.quorumMet = false := by decide +kernel

theorem witness_hold_timer :
    up.station.holdTimer = none ∧
    (let s := up.setStation { StationRec.initial with state := .storm, holdTimer := some 0 }
     s.station.holdTimer.isSome = true ∧ s.station.state = .storm) ∧
    (let s := up.setStation { StationRec.initial with state := .watch, holdTimer := some 0 }
     s.station.holdTimer.isSome = true ∧ s.station.state = .watch) := by decide +kernel

/-! ### Witnesses: event queue, banks, ports, clock -/

theorem witness_changes :
    (∀ r ∈ up.queue.records, r.key ≠ .station) ∧
    alarmed.queue.records = [] ++ newRecord 5 (.fault .linkA) 0 1 :: [] ∧
    (newRecord 5 (.fault .linkA) 0 1).key = .fault .linkA := by decide +kernel

theorem witness_reports :
    State.reset.phase = .restoring ∧ BankId.linkA ≠ .table ∧ up.phase = .running ∧ (up.bank .input).count ≤ 65535 ∧
    (up.bank .input).valid = false ∧ ErrorCode.clipped.errorClass = .corrected ∧
    ErrorCode.channelLost.errorClass = .uncorrected ∧ (alarmed.bank .linkA).valid = true ∧
    (alarmed.bank .linkA).uncorrected = false := by decide +kernel

theorem witness_arbiter :
    let f := { FrameHandler.initial with aToB := [[9]], response := .ready [1], forwardRun := 8 }
    f.txB = none ∧ f.forwardRun ≤ 8 ∧ f.response = .ready [1] ∧ f.aToB = [9] :: [] ∧
    FrameHandler.initial.txB = none ∧ FrameHandler.initial.aToB = [] ∧ (∀ r, FrameHandler.initial.response ≠ .ready r) ∧
    FrameHandler.initial.status = none := by
  refine ⟨rfl, by decide, rfl, rfl, rfl, rfl, fun r h => ?_, rfl⟩
  exact nomatch h

/-- Nine completions, a frame waiting at each: eight forwarded frames, and the response at the ninth. -/
theorem witness_response_waits :
    let f := { FrameHandler.initial with response := .ready [1] }
    let arrivals := List.replicate 9 [[5]]
    f.forwardRun ≤ 8 ∧ f.response = .ready [1] ∧ arrivals.length = 9 ∧
    ((arrivals.take 8).foldl FrameHandler.completeB f).txB = some (.forward, [5]) ∧
    ((arrivals.take 9).foldl FrameHandler.completeB f).txB = some (.response, [1]) := by decide

theorem witness_transmit_completions :
    up.frames.txA = none ∧ up.frames.txB = none ∧
    (up.setFrames { up.frames with txA := some [1] }).frames.txA ≠ none ∧
    (up.setFrames { up.frames with txB := some (.forward, [1]) }).frames.txB = some (.forward, [1]) ∧
    TxSource.forward ≠ .response ∧ up.restartArmed = false := by decide +kernel

/-- A status second with its expiry to come, in a part that runs, and the same expiry taken twice. -/
theorem witness_status_and_uptime :
    let s := ran .uptimeSecondCount up
    s.phase = .running ∧ s.clock.statusDue = true ∧ s.frames.status = none ∧
    (ran .statusTimerExpiry s).frames.txB.isSome = true ∧
    ran .statusTimerExpiry (ran .statusTimerExpiry s) = ran .statusTimerExpiry s ∧
    up.clock.statusDue = false ∧ State.reset.phase ≠ .running := by decide +kernel

/-! ### Witnesses: table store and starts -/

/-- A write in progress with its request in hand, for each kind of write. -/
theorem witness_write_completion :
    let s := fun w => { up with write := some w, frames := { up.frames with response := .pending ⟨1, [2, 7]⟩ } }
    up.write = none ∧ (s (.setup setup60)).frames.response = .pending ⟨1, [2, 7]⟩ ∧
    (exec .storeWriteCompletion (s (.setup setup60)) matches .next _) ∧
    (exec .storeWriteCompletion (s (.guardSpan setup60)) matches .next _) ∧
    (exec .storeWriteCompletion (s (.channelEntry 4 entry4)) matches .next _) ∧
    (exec .storeWriteCompletion (s (.xfEntry 3 xf3Entry)) matches .next _) ∧
    (exec .storeWriteCompletion (s (.channelService 4 entry4)) matches .next _) ∧
    (exec .storeWriteCompletion (s (.xfService 3 xf3Entry)) matches .next _) ∧
    (up.channel 4).state = .off ∧ (up.channel 4).staleTimer = none := by decide +kernel

/-- R96 and R104: a new Q that is met in WATCH and in STORM, and one that ends a quorum. -/
theorem test_new_quorum :
    let after := fun (quorum : Nat) (station : StationRec) =>
      let t := ran .storeWriteCompletion
        { up.setStation station with write := some (.setup { Setup.factory with quorum := quorum, holdTime := 60 })
                                     frames := { up.frames with response := .pending ⟨1, [2, 7]⟩ } }
      (t.station, t.stormOut, t.queue.records)
    let watch := { StationRec.initial with state := .watch, holdTimer := some 7, alertCount := 1 }
    let storm := { StationRec.initial with state := .storm, holdTimer := some 7, alertCount := 1 }
    after 1 watch = ({ watch with state := .storm, holdTimer := none, quorumMet := true }, true,
      [newRecord 0 .station 1 2]) ∧
    after 1 storm = ({ storm with holdTimer := none, quorumMet := true }, false, []) ∧
    after 2 { storm with holdTimer := none, quorumMet := true } = ({ storm with holdTimer := some 180000 }, false, []) ∧
    after 2 watch = (watch, false, []) := by decide +kernel

/-- The four changes of service, each with the change that it enqueues. -/
theorem test_service_completions :
    let after := fun (s : State) (w : StoreWrite) =>
      ran .storeWriteCompletion { s with write := some w, frames := { s.frames with response := .pending ⟨1, [0x08, 7]⟩ } }
    let removed := after alarmed (.xfService 3 { xf3Entry with inService := false })
    (after up (.channelService 4 entry4)).queue.records = [newRecord 0 (.channel 4) 0 ChannelState.settling.rank] ∧
    (after oneChannel (.channelService 4 { entry4 with inService := false })).queue.records =
      [newRecord 0 (.channel 4) ChannelState.valid.rank 0] ∧
    (after up (.xfService 3 xf3Entry)).queue.records = [newRecord 0 (.level 3) 0 1] ∧
    removed.queue.records.getLast? = some (newRecord 0 (.level 3) 4 0) ∧
    (removed.alarmOut, removed.station.alertCount) = (false, 0) := by decide +kernel

theorem witness_images : setup60.InRange ∧ entry4.InRange ∧ xf3Entry.InRange := by
  unfold Setup.InRange ChannelEntry.InRange XfEntry.InRange MemberSlot.InRange ThresholdSet.InRange
  decide +kernel

/-- The three kinds of write that end in another record than the live one took, each restored whole. -/
theorem witness_services_survive :
    let after := fun w : StoreWrite => ran (.coldStart 63) (ran .storeWriteCompletion { up with write := some w })
    (after (.guardSpan { setup60 with guardSpan := .topHalf })).setup = { setup60 with guardSpan := .topHalf } ∧
    (after (.channelService 0 entry4)).channelEntry 0 = entry4 ∧
    (after (.xfService 15 xf3Entry)).xfEntry 15 = xf3Entry := by decide +kernel

/-- A write that survives and a write that is torn, each through a cold start. -/
theorem witness_writes_survive :
    let s := { up with write := some (.channelEntry 39 entry4) }
    (ran (.coldStart 63) (ran .storeWriteCompletion s)).channelEntry 39 = entry4 ∧
    (ran (.coldStart 63) (ran .powerLoss s)).channelEntry 39 = ChannelEntry.factory := by decide +kernel

/-- A store with no failure and a store with one. -/
theorem witness_cold_start :
    State.reset.store.failures = 0 ∧ ({ State.reset.store with setup := .torn } : Store).failures = 1 := by
  decide +kernel

/-- Failed images of transformer 2, transformer 9 and channel 0: the TABLE bank holds transformer 2's, with a count of 3;
and one failed image that a kept TABLE bank only counts. -/
theorem witness_first_failure :
    let torn : Store :=
      { Store.factory with xfs := (Store.factory.xfs.set 2 .torn).set 9 .torn, channels := Store.factory.channels.set 0 .torn }
    let kept := (BankRec.empty).take 40 .setupCheckFail 255
    let warm := fun (store : Store) (b : BankRec) =>
      let t := ran .portBTransmitCompletion
        { up with restartArmed := true, store := store, banks := up.banks.set 5 b
                  frames := { up.frames with response := .sending, txB := some (.response, [1]) } }
      (t.bank .table, t.queue.records.length)
    torn.FirstFailure .entryCheckFail 42 ∧ torn.failures = 3 ∧
    (ran (.coldStart 0) { State.reset with store := torn }).bank .table =
      ⟨true, true, true, some .entryCheckFail, 42, 0, 3⟩ ∧
    warm { Store.factory with setup := .torn } BankRec.empty = (⟨true, true, false, some .setupCheckFail, 255, 0, 1⟩, 1) ∧
    warm torn kept = ({ kept with overflow := true, count := 4 }, 0) := by
  refine ⟨.inr (.inl ⟨by decide +kernel, 2, by decide +kernel, by decide +kernel, rfl, rfl⟩), ?_⟩
  decide +kernel

theorem witness_restore_completion :
    up.phase ≠ .restoring ∧ State.reset.phase = .restoring ∧ (∀ c : Channel, State.reset.channel c = ChannelRec.off) ∧
    (∀ x : Xf, State.reset.xf x = XfRec.offWith (State.reset.xf x).theta (State.reset.xf x).thermal) ∧
    State.reset.station = StationRec.initial ∧ State.reset.alarmOut = false ∧
    quorumCondition 1 1 = true ∧ quorumCondition 2 1 = false := by decide +kernel

theorem witness_warm_restart :
    let s := { up with restartArmed := true
                       frames := { up.frames with response := .sending, txB := some (.response, [1]) } }
    s.frames.txB = some (.response, [1]) ∧ s.restartArmed = true ∧ s.store.failures = 0 := by decide +kernel

theorem witness_ends :
    up.phase = .running ∧ State.reset.phase = .restoring ∧ heldState.phase = .heldInReset ∧ up.write = none ∧
    (ran .powerLoss up).phase = .powerAbsent := by decide +kernel

end Sys2Proof.Tests
end

/-! PROOF. The pickup and the hold level of a magnitude (R55, R56). The hold level of a magnitude is the pickup level of
that magnitude raised by the hysteresis, so what is proved of the pickup level carries over to the hold level. -/

namespace Sys2Proof.Machine

theorem Level.num_le_three (l : Level) : l.num ≤ 3 := by
  cases l <;> decide

theorem holdLevel_eq_pickupLevel_add (t : ThresholdSet) (a : Nat) : holdLevel t a = pickupLevel t (a + t.h) := rfl

/-- The four values of R55, each with the band of magnitudes that gives it. -/
theorem pickupLevel_cases (t : ThresholdSet) (a : Nat) :
    (t.p3 ≤ a ∧ pickupLevel t a = .alarm) ∨
    (a < t.p3 ∧ t.p2 ≤ a ∧ pickupLevel t a = .alert) ∨
    (a < t.p3 ∧ a < t.p2 ∧ t.p1 ≤ a ∧ pickupLevel t a = .watch) ∨
    (a < t.p3 ∧ a < t.p2 ∧ a < t.p1 ∧ pickupLevel t a = .quiet) := by
  unfold pickupLevel
  split_ifs <;> simp <;> omega

/-- R55. The pickups must ascend: only then does a magnitude that reaches one pickup reach every lower one. -/
theorem le_pickupLevel_num_iff {t : ThresholdSet} (ht : t.InRange) (a : Nat) :
    (3 ≤ (pickupLevel t a).num ↔ t.p3 ≤ a) ∧ (2 ≤ (pickupLevel t a).num ↔ t.p2 ≤ a) ∧
    (1 ≤ (pickupLevel t a).num ↔ t.p1 ≤ a) := by
  obtain ⟨-, h12, h23, -, -⟩ := ht
  obtain ⟨h3, hp⟩ | ⟨h3, h2, hp⟩ | ⟨h3, h2, h1, hp⟩ | ⟨h3, h2, h1, hp⟩ := pickupLevel_cases t a <;>
    simp only [hp, Level.num] <;> omega

/-- R56, from R55 at the magnitude raised by the hysteresis. -/
theorem le_holdLevel_num_iff {t : ThresholdSet} (ht : t.InRange) (a : Nat) :
    (3 ≤ (holdLevel t a).num ↔ t.p3 - t.h ≤ a) ∧ (2 ≤ (holdLevel t a).num ↔ t.p2 - t.h ≤ a) ∧
    (1 ≤ (holdLevel t a).num ↔ t.p1 - t.h ≤ a) := by
  simpa only [holdLevel_eq_pickupLevel_add, Nat.sub_le_iff_le_add] using le_pickupLevel_num_iff ht (a + t.h)

theorem pickupLevel_num_mono {t : ThresholdSet} (ht : t.InRange) {a b : Nat} (hab : a ≤ b) :
    (pickupLevel t a).num ≤ (pickupLevel t b).num := by
  obtain ⟨reachesA3, reachesA2, reachesA1⟩ := le_pickupLevel_num_iff ht a
  obtain ⟨reachesB3, reachesB2, reachesB1⟩ := le_pickupLevel_num_iff ht b
  have atMost3 := (pickupLevel t a).num_le_three
  omega

theorem pickupLevel_num_le_holdLevel_num {t : ThresholdSet} (ht : t.InRange) (a : Nat) :
    (pickupLevel t a).num ≤ (holdLevel t a).num :=
  pickupLevel_num_mono ht (Nat.le_add_right a t.h)

theorem holdLevel_eq_pickupLevel {t : ThresholdSet} (hh : t.h = 0) (a : Nat) : holdLevel t a = pickupLevel t a := by
  rw [holdLevel_eq_pickupLevel_add, hh, Nat.add_zero]

/-- Settles O43: the hold level is the pickup level at the magnitude raised by the hysteresis, and the pickup level does
not fall as the magnitude grows. -/
theorem pickupAndHoldLevels : Obligations.PickupAndHoldLevels := by
  intro t a ht
  obtain ⟨pickup3, pickup2, pickup1⟩ := le_pickupLevel_num_iff ht a
  obtain ⟨hold3, hold2, hold1⟩ := le_holdLevel_num_iff ht a
  exact ⟨pickup3, pickup2, pickup1, Level.num_le_three _, hold3, hold2, hold1, Level.num_le_three _,
    pickupLevel_num_le_holdLevel_num ht a, fun hh => holdLevel_eq_pickupLevel hh a⟩

end Sys2Proof.Machine

/-! PROOF. The rate notice and the judgement of R (R98 to R102). A notice stores its rate and the R formed from it, and
then judges that R, so each clause of the judgement is an equation of `judgeNorm` under the tests of its own row. -/

namespace Sys2Proof.Machine

/-! ### The rate norm (R98, R99) -/

theorem axisMagnitude_eq (axis : Option (Int × Channel)) :
    axisMagnitude axis = (axis.map (fun v => v.1.natAbs)).getD 0 := by
  cases axis <;> rfl

/-- The magnitude of an axis that takes a new rate, or keeps the one it has. -/
theorem axisMagnitude_ite (p : Prop) [Decidable p] (rate : Int) (c : Channel) (axis : Option (Int × Channel)) :
    axisMagnitude (if p then some (rate, c) else axis) =
      if p then rate.natAbs else (axis.map (fun v => v.1.natAbs)).getD 0 := by
  split
  · rfl
  · exact axisMagnitude_eq axis

/-- The bound of R99. -/
theorem rateNorm_le {x y : Nat} (hx : x ≤ 32767) (hy : y ≤ 32767) : rateNorm x y ≤ 45054 := by
  unfold rateNorm
  omega

/-- The rate of a field channel goes to its own axis and leaves the other (R98). -/
theorem StationRec.withRate_of_field {kind : ChannelKind} (hk : kind ≠ .neutral) (rate : Int) (c : Channel)
    (r : StationRec) :
    r.withRate kind rate c =
      { r with xRate := if kind = .fieldX then some (rate, c) else r.xRate
               yRate := if kind = .fieldY then some (rate, c) else r.yRate } := by
  cases kind with
  | neutral => exact absurd rfl hk
  | fieldX => rfl
  | fieldY => rfl

/-- The R that a notice forms is judged on the record that already holds it (R99). -/
theorem rateNotice_eq_judgeNorm (c : Channel) (kind : ChannelKind) (rate : Int) (s : State) :
    rateNotice c kind rate s =
      judgeNorm (s.station.withRate kind rate c).norm
        (s.setStation { s.station.withRate kind rate c with
          latestNorm := some (s.station.withRate kind rate c).norm }) := rfl

/-! ### Entry to another station state (R105, R107) -/

theorem enterStation_of_ne {new : StationState} {s : State} (h : s.station.state ≠ new) :
    enterStation new s = takeChange .station s.station.state.rank new.rank
      { s with station := { s.station with state := new }, stormOut := new == .storm } :=
  if_neg h

/-! ### The judgement of R (R100 to R102) -/

section Judgement
variable {r : Nat} {s : State}

theorem judgeNorm_of_calm (h : s.station.state = .calm) : judgeNorm r s = judgeCalm r s := by
  rw [judgeNorm, h]

theorem judgeNorm_of_watch (h : s.station.state = .watch) : judgeNorm r s = judgeWatch r s := by
  rw [judgeNorm, h]

theorem judgeNorm_of_storm (h : s.station.state = .storm) : judgeNorm r s = judgeStorm r s := by
  rw [judgeNorm, h]

variable (s)

/-- CALM, R at R_storm (R100). -/
theorem judgeNorm_calm_enters_storm (h : s.station.state = .calm) (hr : s.setup.stormRate ≤ r) :
    judgeNorm r s = takeChange .station 0 2
      { s with station := { s.station with state := .storm, watchRun := 0, holdTimer := s.fullHold }
               stormOut := true } := by
  have differs : (startHold (setWatchRun 0 s)).station.state ≠ .storm := by simp [startHold, setWatchRun, h]
  have rank : (startHold (setWatchRun 0 s)).station.state.rank = 0 := congrArg StationState.rank h
  rw [judgeNorm_of_calm h, judgeCalm, if_pos hr, enterStation_of_ne differs, rank]
  rfl

/-- CALM, the third R in a row at R_watch (R100). -/
theorem judgeNorm_calm_enters_watch (h : s.station.state = .calm) (hw : s.setup.watchRate ≤ r)
    (hr : r < s.setup.stormRate) (run : s.station.watchRun = 2) :
    judgeNorm r s = takeChange .station 0 1
      { s with station := { s.station with state := .watch, watchRun := 0, holdTimer := s.fullHold }
               stormOut := false } := by
  have differs : (startHold (setWatchRun 0 s)).station.state ≠ .watch := by simp [startHold, setWatchRun, h]
  have rank : (startHold (setWatchRun 0 s)).station.state.rank = 0 := congrArg StationState.rank h
  rw [judgeNorm_of_calm h, judgeCalm, if_neg hr.not_ge, if_pos hw, if_pos (by omega), enterStation_of_ne differs, rank]
  rfl

/-- CALM, an R at R_watch that is not yet the third (R100). -/
theorem judgeNorm_calm_counts (h : s.station.state = .calm) (hw : s.setup.watchRate ≤ r)
    (hr : r < s.setup.stormRate) (run : s.station.watchRun ≠ 2) :
    judgeNorm r s = { s with station := { s.station with watchRun := s.station.watchRun + 1 } } := by
  rw [judgeNorm_of_calm h, judgeCalm, if_neg hr.not_ge, if_pos hw, if_neg (by omega)]
  rfl

/-- CALM, a lower R (R100). -/
theorem judgeNorm_calm_ends_run (h : s.station.state = .calm) (hw : r < s.setup.watchRate)
    (hr : r < s.setup.stormRate) :
    judgeNorm r s = { s with station := { s.station with watchRun := 0 } } := by
  rw [judgeNorm_of_calm h, judgeCalm, if_neg hr.not_ge, if_neg hw.not_ge]
  rfl

/-- WATCH, R at R_storm (R101). -/
theorem judgeNorm_watch_enters_storm (h : s.station.state = .watch) (hr : s.setup.stormRate ≤ r) :
    judgeNorm r s = takeChange .station 1 2
      { s with station := { s.station with state := .storm, holdTimer := s.fullHold }, stormOut := true } := by
  have differs : (startHold s).station.state ≠ .storm := by simp [startHold, h]
  have rank : (startHold s).station.state.rank = 1 := congrArg StationState.rank h
  rw [judgeNorm_of_watch h, judgeWatch, if_pos hr, enterStation_of_ne differs, rank]
  rfl

/-- WATCH, R at R_watch (R101). -/
theorem judgeNorm_watch_restarts_hold (h : s.station.state = .watch) (hw : s.setup.watchRate ≤ r)
    (hr : r < s.setup.stormRate) :
    judgeNorm r s = { s with station := { s.station with holdTimer := s.fullHold } } := by
  rw [judgeNorm_of_watch h, judgeWatch, if_neg hr.not_ge, if_pos hw]
  rfl

/-- WATCH, a lower R (R101). -/
theorem judgeNorm_watch_unchanged (h : s.station.state = .watch) (hw : r < s.setup.watchRate)
    (hr : r < s.setup.stormRate) : judgeNorm r s = s := by
  rw [judgeNorm_of_watch h, judgeWatch, if_neg hr.not_ge, if_neg hw.not_ge]

/-- STORM, R at R_storm while the timer runs (R102). -/
theorem judgeNorm_storm_restarts_hold (h : s.station.state = .storm) (hr : s.setup.stormRate ≤ r)
    (running : s.station.holdTimer.isSome = true) :
    judgeNorm r s = { s with station := { s.station with holdTimer := s.fullHold } } := by
  rw [judgeNorm_of_storm h, judgeStorm, if_pos ⟨hr, running⟩]
  rfl

/-- STORM, a lower R, or any R while the timer is stopped (R102). -/
theorem judgeNorm_storm_unchanged (h : s.station.state = .storm)
    (weak : r < s.setup.stormRate ∨ s.station.holdTimer = none) : judgeNorm r s = s := by
  have noRestart : ¬(s.setup.stormRate ≤ r ∧ s.station.holdTimer.isSome = true) := by
    rintro ⟨hr, running⟩
    obtain below | stopped := weak
    · omega
    · simp [stopped] at running
  rw [judgeNorm_of_storm h, judgeStorm, if_neg noRestart]

end Judgement

/-- Settles O45: the notice's R is judged on the record with the new rate, and each clause is one row of the judgement. -/
theorem rateNoticeIsJudged : Obligations.RateNoticeIsJudged := by
  intro s c kind rate hk x y norm r full t
  have rates := s.station.withRate_of_field hk rate c
  have normed : (s.station.withRate kind rate c).norm = norm := by
    rw [rates, StationRec.norm, axisMagnitude_ite, axisMagnitude_ite]
    rfl
  have judged : t = judgeNorm norm (s.setStation r) :=
    (rateNotice_eq_judgeNorm c kind rate s).trans (by rw [normed, rates])
  rw [judged]
  refine ⟨rateNorm_le, judgeNorm_calm_enters_storm (s.setStation r), fun calm hw hr => ?_,
    judgeNorm_calm_ends_run (s.setStation r), judgeNorm_watch_enters_storm (s.setStation r),
    judgeNorm_watch_restarts_hold (s.setStation r), judgeNorm_watch_unchanged (s.setStation r),
    judgeNorm_storm_restarts_hold (s.setStation r), judgeNorm_storm_unchanged (s.setStation r)⟩
  split_ifs with run
  · exact judgeNorm_calm_enters_watch (s.setStation r) calm hw hr run
  · exact judgeNorm_calm_counts (s.setStation r) calm hw hr run

end Sys2Proof.Machine

/-! PROOF. The event queue takes a change (R111 to R117). `takeInto` walks the records until it meets the change's key:
it reaches the tail and appends where no record holds the key, and folds into the first record that does. -/

namespace Sys2Proof.Machine

/-! ### Append or fold (R115, R116) -/

/-- The walk passes every record of another key. -/
theorem takeInto_append_of_ne (now : Word32) {key : EventKey} (f t : Nat) {older : List EventRec}
    (absent : ∀ q ∈ older, q.key ≠ key) (rest : List EventRec) :
    takeInto now key f t (older ++ rest) = older ++ takeInto now key f t rest := by
  induction older with
  | nil => rfl
  | cons q older ih =>
    obtain ⟨hq, tail⟩ := List.forall_mem_cons.1 absent
    rw [List.cons_append, takeInto, if_neg hq, ih tail, List.cons_append]

/-- A change for a key that no record holds appends its record at the tail (R115). -/
theorem takeInto_of_absent (now : Word32) {key : EventKey} (f t : Nat) {rs : List EventRec}
    (absent : ∀ q ∈ rs, q.key ≠ key) : takeInto now key f t rs = rs ++ [newRecord now key f t] := by
  simpa only [List.append_nil, takeInto] using takeInto_append_of_ne now f t absent []

/-- A change folds into the first record that holds its key, in that record's place (R116). -/
theorem takeInto_of_first (now : Word32) (f t : Nat) {older : List EventRec} {r : EventRec}
    (absent : ∀ q ∈ older, q.key ≠ r.key) (newer : List EventRec) :
    takeInto now r.key f t (older ++ r :: newer) = older ++ foldRecord now f t r :: newer := by
  rw [takeInto_append_of_ne now f t absent, takeInto, if_pos rfl]

/-! ### Priorities (R114) -/

theorem changePriority_level_from_off (x : Xf) (toRank : Nat) :
    changePriority (.level x) levelOffRank toRank = 1 := by
  rw [changePriority, if_pos (.inl rfl)]

theorem changePriority_level_to_off (x : Xf) (fromRank : Nat) :
    changePriority (.level x) fromRank levelOffRank = 1 := by
  rw [changePriority, if_pos (.inr rfl)]

/-- Between two levels the priority is the higher of them: the ranks stand one above the numbers, OFF being rank 0. -/
theorem changePriority_level (x : Xf) (a b : Level) :
    changePriority (.level x) a.rank b.rank = max a.num b.num := by
  have neitherOff : ¬(a.rank = levelOffRank ∨ b.rank = levelOffRank) := by simp [Level.rank, levelOffRank]
  rw [changePriority, if_neg neitherOff, Level.rank, Level.rank]
  omega

theorem changePriority_channel (c : Channel) (a b : ChannelState) :
    changePriority (.channel c) a.rank b.rank = if b = .lost ∨ b = .suspect then 2 else 1 := by
  cases b <;> rfl

theorem changePriority_station (a b : StationState) :
    changePriority .station a.rank b.rank = match b with | .storm => 3 | .watch => 2 | .calm => 1 := by
  cases b <;> rfl

theorem changePriority_fault (k : BankId) (a b : HeldClass) :
    changePriority (.fault k) a.rank b.rank = if b = .uncorrected then 3 else 2 := by
  cases b <;> rfl

/-- Settles O48: the walk appends or folds by whether a record holds the key, the priority is read off the table kind by
kind, and the rank order is the definition of the ranks. -/
theorem changesAppendOrFold : Obligations.ChangesAppendOrFold := by
  refine ⟨fun s key f t => ⟨fun absent => ?_, fun older newer r records holds absent => ?_⟩,
    fun x a b => ⟨changePriority_level_from_off x _, changePriority_level_to_off x _, changePriority_level x a b⟩,
    changePriority_channel, changePriority_station, changePriority_fault, rfl, rfl, rfl, rfl, rfl⟩
  · rw [takeChange, takeInto_of_absent _ f t absent]
    rfl
  · subst holds
    rw [takeChange, records, takeInto_of_first _ f t absent newer]
    rfl

end Sys2Proof.Machine

/-! PROOF. READ EVENTS and SET FLOOR (R118 to R123). Each request's parameter stands in one body byte; its range decides
between BAD VALUE and the answer. What READ EVENTS takes and leaves is what `selectEvents_spec` says of its walk. -/

namespace Sys2Proof.Machine

/-! ### The counts of the answer (R121) -/

/-- The records that are not at or above the floor are those below it. -/
theorem length_sub_countAtOrAbove (reportFloor : Nat) (rs : List EventRec) :
    rs.length - countAtOrAbove reportFloor rs = rs.countP (fun r => !decide (reportFloor ≤ r.priority)) := by
  have parts := List.length_eq_countP_add_countP (fun r : EventRec => decide (reportFloor ≤ r.priority)) (l := rs)
  simp only [countAtOrAbove, Bool.not_eq_true, Bool.decide_eq_false] at parts ⊢
  omega

/-! ### The two requests in a serving state -/

section Serving
variable {s : State} (h : s.Serving) (source tag n : Byte)
include h

/-- READ EVENTS answers with the records its walk takes and keeps those that it leaves (R120, R121). -/
theorem exec_readEvents :
    let walk := selectEvents s.queue.reportFloor n.toNat s.queue.records
    let above := countAtOrAbove s.queue.reportFloor walk.2
    exec (.readEvents source tag [n]) s = .next (
      if n.toNat = 0 ∨ 8 < n.toNat then s.answered ⟨source, [0x0A, tag, n]⟩ .badValue 1 []
      else (s.setQueue { s.queue with records := walk.2 }).answered ⟨source, [0x0A, tag, n]⟩ .done 0
        ([BitVec.ofNat 8 walk.1.length, BitVec.ofNat 8 above, BitVec.ofNat 8 (walk.2.length - above)]
          ++ walk.1.flatMap eventBytes)) := by
  rw [exec, execReadEvents, intake_serving h]
  simp only [serveReadEvents, requestBody_length, requestBody_u8_two, u8_cons_zero, List.length_singleton, ne_eq,
    not_true_eq_false, if_false]
  split_ifs
  · exact congrArg _ (arbiter_refuse_holdRequest _ _ _ _ s)
  · exact congrArg _ (arbiter_respondDone_holdRequest _ _ _ (s.setQueue _))

/-- SET FLOOR answers with the floor before it and the count of records at or above its own (R123). -/
theorem exec_setFloor :
    exec (.setFloor source tag [n]) s = .next (
      if 3 < n.toNat then s.answered ⟨source, [0x0B, tag, n]⟩ .badValue 1 []
      else (s.setQueue { s.queue with reportFloor := n.toNat }).answered ⟨source, [0x0B, tag, n]⟩ .done 0
        [BitVec.ofNat 8 s.queue.reportFloor, BitVec.ofNat 8 (countAtOrAbove n.toNat s.queue.records)]) := by
  rw [exec, execSetFloor, intake_serving h]
  simp only [serveSetFloor, requestBody_length, requestBody_u8_two, u8_cons_zero, List.length_singleton, ne_eq,
    not_true_eq_false, if_false]
  split_ifs
  · exact congrArg _ (arbiter_refuse_holdRequest _ _ _ _ s)
  · exact congrArg _ (arbiter_respondDone_holdRequest _ _ _ (s.setQueue _))

end Serving

/-! ### The bytes of a record (R186) -/

/-- A record of known key is its bytes by definition; a FAULT key's subject needs the bank too. -/
theorem eventBytes_eq (r : EventRec) :
    eventBytes r =
      (match r.key with
        | .level x => [1, BitVec.ofNat 8 x.val]
        | .channel c => [2, BitVec.ofNat 8 c.val]
        | .station => [3, 0]
        | .fault b => [4, match b with
          | .linkA => 0 | .linkB => 1 | .input => 2 | .assembly => 3 | .compute => 4 | .table => 5 | .output => 6])
        ++ be32 r.firstSecond.toNat ++ be32 r.lastSecond.toNat
        ++ [BitVec.ofNat 8 r.fromRank, BitVec.ofNat 8 r.toRank, BitVec.ofNat 8 r.peak, BitVec.ofNat 8 r.changes,
          BitVec.ofNat 8 r.priority] := by
  obtain ⟨key, _⟩ := r
  cases key with
  | level x => rfl
  | channel c => rfl
  | station => rfl
  | fault b => cases b <;> rfl

/-- Settles O26: each clause is one branch of its request's equation in a serving state, with the walk of READ EVENTS
read off `selectEvents_spec`. -/
theorem eventsAreReadAndTheFloorSet : Obligations.EventsAreReadAndTheFloorSet := by
  intro s source tag n h
  refine ⟨fun refused => ?_, fun low high => ?_, fun refused => ?_, fun within => ?_, eventBytes_eq⟩
  · have outside : n.toNat = 0 ∨ 8 < n.toNat := refused.imp (congrArg BitVec.toNat) id
    rw [exec_readEvents h, if_pos outside]
  · intro eligible taken
    have inside : ¬(n.toNat = 0 ∨ 8 < n.toNat) := by omega
    obtain ⟨walkTakes, isSublist, leavesEligible, leavesOthers⟩ :=
      selectEvents_spec s.queue.reportFloor n.toNat s.queue.records
    refine ⟨_, isSublist, leavesEligible, leavesOthers, ?_⟩
    rw [exec_readEvents h, if_neg inside, length_sub_countAtOrAbove, walkTakes]
    rfl
  · have outside : 3 < n.toNat := refused
    rw [exec_setFloor h, if_pos outside]
  · rw [exec_setFloor h, if_neg within.not_gt]
    rfl

end Sys2Proof.Machine

/-! PROOF. The capture recorder (R127 to R135). A write is said field by field. READ CAPTURE judges its start by one
table; under the recorder's law every index from the effective start up to the run index names a readable record, so that
the reply's records are those of the ring with none left out. -/

namespace Sys2Proof.Machine

/-! ### The taking of a record, fill and NEARLY FULL (R129, R130) -/

section Write
variable (r : Recorder) (c : CaptureRec)

@[simp] theorem Recorder.write_run : (r.write c).run = r.run + 1 := rfl

@[simp] theorem Recorder.write_held : (r.write c).held = r.held := rfl

theorem Recorder.write_ring (i : Fin Config.ringSlots) :
    (r.write c).ring[i] = if ringSlot r.run = i then some c else r.ring[i] := by
  simp [Recorder.write, Vector.getElem_set, Fin.ext_iff]

/-- The flag is set at the write that brings the run index to 512, and stays set. -/
theorem Recorder.write_filled_iff : (r.write c).filled = true ↔ r.filled = true ∨ (r.run + 1).toNat = 512 := by
  simp [Recorder.write, Config.ringSlots, ← BitVec.toNat_inj]

theorem Recorder.write_overrun_iff :
    (r.write c).overrun = true ↔ r.overrun = true ∨ 512 < indexDistance (r.run + 1) r.held := by
  rw [Recorder.write, Bool.or_eq_true, decide_eq_true_iff]
  rfl

theorem Recorder.nearlyFull_iff : r.nearlyFull = true ↔ 410 ≤ r.fill := decide_eq_true_iff

theorem Recorder.fill_of_overrun (h : r.overrun = true) : r.fill = 512 := if_pos h

theorem Recorder.fill_of_not_overrun (h : r.overrun = false) : r.fill = indexDistance r.run r.held := by
  simp [Recorder.fill, h]

end Write

/-- Settles O50: each clause is the write's equation for one field, or fill's or NEARLY FULL's. -/
theorem recorderTakesARecord : Obligations.RecorderTakesARecord := by
  intro r c
  refine ⟨?_, fun i other => ?_, rfl, r.write_run c, r.write_held c, r.write_filled_iff c, r.write_overrun_iff c,
    r.fill_of_overrun, r.fill_of_not_overrun, r.nearlyFull_iff⟩
  · exact (r.write_ring c _).trans (if_pos rfl)
  · exact (r.write_ring c i).trans (if_neg other.symm)

/-! ### Capture indices behind the run index (R128) -/

/-- The index `n` behind the run index is at distance `n`. -/
theorem indexDistance_sub_ofNat (run : Word32) {n : Nat} (h : n < 4294967296) :
    indexDistance run (run - BitVec.ofNat 32 n) = n := by
  rw [indexDistance, sub_sub_cancel, BitVec.toNat_ofNat, Nat.mod_eq_of_lt h]

/-- The index `i` past one at distance `d` behind the run index stands `d - i` behind it. -/
theorem add_ofNat_eq_sub_ofNat (run index : Word32) {i : Nat} (h : i ≤ indexDistance run index) :
    index + BitVec.ofNat 32 i = run - BitVec.ofNat 32 (indexDistance run index - i) := by
  unfold indexDistance at *
  bv_omega

/-! ### The judgement of a start (R133) -/

/-- The table of R133: read case, effective start and lost count. -/
theorem Recorder.judgement (r : Recorder) (start : Word32) :
    (r.readCase start, r.effectiveStart start, r.lostCount start) =
      if indexDistance r.run start ≤ r.readable then (.current, start, 0)
      else if indexDistance r.run start < 2147483648 then
        (.overrun, r.run - BitVec.ofNat 32 r.readable, indexDistance r.run start - r.readable)
      else (.ahead, r.run, 0) := by
  unfold effectiveStart lostCount readCase
  split_ifs <;> rfl

theorem Recorder.Law.readable_le {r : Recorder} (law : r.Law) : r.readable ≤ 512 := by
  obtain ⟨-, unfilled, -⟩ := law
  unfold readable
  split_ifs with filled
  · exact le_rfl
  · exact (unfilled (Bool.eq_false_iff.2 filled)).le

/-- In each of the three cases the effective start lies no further behind the run index than the oldest readable
record. -/
theorem Recorder.Law.distance_effectiveStart_le {r : Recorder} (law : r.Law) (start : Word32) :
    indexDistance r.run (r.effectiveStart start) ≤ r.readable := by
  have atMost := law.readable_le
  unfold effectiveStart readCase
  split_ifs with current overrun
  · exact current
  · exact (indexDistance_sub_ofNat r.run (by omega)).le
  · simp [indexDistance]

/-! ### The records returned (R131, R134) -/

/-- Where no index is passed over, the list of what `f` holds is the list of its values. -/
theorem map_some_filterMap {α β : Type} {f : α → Option β} {l : List α}
    (present : ∀ x ∈ l, (f x).isSome = true) :
    (l.filterMap f).map some = l.map f := by
  induction l with
  | nil => rfl
  | cons x l ih =>
    obtain ⟨head, tail⟩ := List.forall_mem_cons.1 present
    obtain ⟨y, hy⟩ := Option.isSome_iff_exists.1 head
    rw [List.filterMap_cons_some hy, List.map_cons, List.map_cons, ih tail, hy]

section Records
variable {r : Recorder} (law : r.Law) {index : Word32} (readable : indexDistance r.run index ≤ r.readable)
include law readable

/-- Every index from a readable one up to the run index has its record in its slot. -/
theorem Recorder.Law.slot_isSome {i : Nat} (h : i < indexDistance r.run index) :
    (r.ring[ringSlot (index + BitVec.ofNat 32 i)]).isSome = true := by
  obtain ⟨-, -, held⟩ := law
  simp only [add_ofNat_eq_sub_ofNat r.run index h.le]
  exact held _ (by omega) (by omega)

theorem Recorder.Law.map_some_recordsFrom {n : Nat} (h : n ≤ indexDistance r.run index) :
    (r.recordsFrom index n).map some =
      (List.range n).map (fun i => r.ring[ringSlot (index + BitVec.ofNat 32 i)]) :=
  map_some_filterMap fun _ hi => law.slot_isSome readable ((List.mem_range.1 hi).trans_le h)

theorem Recorder.Law.length_recordsFrom {n : Nat} (h : n ≤ indexDistance r.run index) :
    (r.recordsFrom index n).length = n := by
  simpa using congrArg List.length (law.map_some_recordsFrom readable h)

theorem Recorder.Law.getElem?_recordsFrom {n : Nat} (h : n ≤ indexDistance r.run index) {i : Nat} (hi : i < n) :
    r.ring[ringSlot (index + BitVec.ofNat 32 i)] = (r.recordsFrom index n)[i]? := by
  have entry := congrArg (·[i]?) (law.map_some_recordsFrom readable h)
  have inside : i < (r.recordsFrom index n).length := by rwa [law.length_recordsFrom readable h]
  simpa [hi, inside] using entry.symm

end Records

/-! ### The bytes of the reply (R186) -/

theorem be32_eq_be16_append (n : Nat) : be32 n = be16 (n / 65536) ++ be16 n := by
  simp [be32, be16, Nat.div_div_eq_div_mul]

theorem flagByte_eq (b : Bool) : flagByte b = [if b then 1 else 0] := by
  cases b <;> rfl

theorem be8_readCase_code (k : ReadCase) :
    be8 k.code = [match k with | .current => 0 | .overrun => 1 | .ahead => 2] := by
  cases k <;> rfl

theorem be8_level_num (l : Level) :
    be8 l.num = [match l with | .quiet => 0 | .watch => 1 | .alert => 2 | .alarm => 3] := by
  cases l <;> rfl

theorem be8_quality_code (q : Quality) : be8 q.code = [match q with | .good => 0 | .degraded => 1 | .noData => 2] := by
  cases q <;> rfl

theorem be8_station_rank (x : StationState) :
    be8 x.rank = [match x with | .calm => 0 | .watch => 1 | .storm => 2] := by
  cases x <;> rfl

/-- The four bytes of a body from byte 2 on, high byte first. -/
theorem u32_two (c0 c1 b3 b2 b1 b0 : Byte) (rest : List Byte) :
    u32 (c0 :: c1 :: b3 :: b2 :: b1 :: b0 :: rest) 2 =
      b3.toNat * 16777216 + b2.toNat * 65536 + b1.toNat * 256 + b0.toNat := by
  simp only [u32, u16, u8, List.getD_cons_succ, List.getD_cons_zero]
  omega

/-! ### READ CAPTURE in a serving state (R132 to R135) -/

/-- READ CAPTURE answers from the recorder as it stands and leaves it as after the read. -/
theorem exec_readCapture {s : State} (h : s.Serving) (source tag b3 b2 b1 b0 n : Byte) {start : Word32}
    (carried : start = BitVec.ofNat 32 (u32 [0x0C, tag, b3, b2, b1, b0, n] 2)) :
    let rq : Request := ⟨source, [0x0C, tag, b3, b2, b1, b0, n]⟩
    exec (.readCapture source tag [b3, b2, b1, b0, n]) s = .next (
      if n.toNat = 0 ∨ 16 < n.toNat then s.answered rq .badValue 2 []
      else (s.setRecorder (s.recorder.afterRead start)).answered rq .done 0
        (captureReplyBytes s.recorder start n.toNat)) := by
  have length : (requestBody 0x0C tag [b3, b2, b1, b0, n]).length = 7 := rfl
  have count : u8 (requestBody 0x0C tag [b3, b2, b1, b0, n]) 6 = n.toNat := rfl
  have index : BitVec.ofNat 32 (u32 (requestBody 0x0C tag [b3, b2, b1, b0, n]) 2) = start := carried.symm
  rw [exec, execReadCapture, intake_serving h]
  simp only [serveReadCapture, length, count, index, ne_eq, not_true_eq_false, if_false]
  split_ifs
  · exact congrArg _ (arbiter_refuse_holdRequest _ _ _ _ s)
  · exact congrArg _ (arbiter_respondDone_holdRequest _ _ _ (s.setRecorder _))

theorem captureBytes_eq (r : CaptureRec) :
    captureBytes r =
      be16 (r.second.toNat / 65536) ++ be16 r.second.toNat ++ [BitVec.ofNat 8 r.xf.val] ++ be16 r.meanMagnitude
        ++ be16 (BitVec.ofInt 16 r.current).toNat ++ be16 r.theta
        ++ ([match r.reported with | .quiet => 0 | .watch => 1 | .alert => 2 | .alarm => 3] : List Byte)
        ++ ([match r.quality with | .good => 0 | .degraded => 1 | .noData => 2] : List Byte)
        ++ ([match r.station with | .calm => 0 | .watch => 1 | .storm => 2] : List Byte) := by
  rw [captureBytes, be32_eq_be16_append, be8_level_num, be8_quality_code, be8_station_rank]
  rfl

/-- Settles O27: the answer is the recorder's own reply. Its judgement is the table of R133, its records are those of
the ring because the effective start is readable, and its bytes are spelt out layout by layout. -/
theorem readCaptureJudgesTheStart : Obligations.ReadCaptureJudgesTheStart := by
  intro s source tag b3 b2 b1 b0 n h law rq cmd w2 w4 one start
  have carried : start = BitVec.ofNat 32 (u32 rq.body 2) := by rw [u32_two]
  -- Past this point the start matters only as the number that the body carries.
  clear_value start
  have answer := exec_readCapture h source tag b3 b2 b1 b0 n carried
  refine ⟨fun refused => ?_, fun low high readCase effective lost judged => ?_, captureBytes_eq⟩
  · have outside : n.toNat = 0 ∨ 16 < n.toNat := refused.imp (congrArg BitVec.toNat) id
    rw [answer, if_pos outside]
  · have inside : ¬(n.toNat = 0 ∨ 16 < n.toNat) := by omega
    obtain ⟨rfl, rfl, rfl⟩ : readCase = _ ∧ effective = _ ∧ lost = _ := by
      simpa only [Prod.mk.injEq] using judged.trans (s.recorder.judgement start).symm
    have readable := law.distance_effectiveStart_le start
    refine ⟨_, law.length_recordsFrom readable (min_le_right _ _),
      fun i hi => law.getElem?_recordsFrom readable (min_le_right _ _) hi, ?_⟩
    rw [answer, if_neg inside, captureReplyBytes, flagByte_eq, be8_readCase_code]
    simp only [be32_eq_be16_append]
    rfl

end Sys2Proof.Machine

/-! PROOF. A report to an error bank (R141 to R144): whether the bank takes it, what the bank's record becomes, the class
that record holds, and so the FAULT change that goes with it. -/

namespace Sys2Proof.Machine

/-! ### Whether a bank takes reports (R144) -/

theorem State.bankTakes_of_restoring {s : State} (restoring : s.phase = .restoring) (b : BankId) :
    s.bankTakes b = (b == .table) := by
  rw [State.bankTakes, restoring]

theorem State.bankTakes_of_running {s : State} (running : s.phase = .running) (b : BankId) : s.bankTakes b = true := by
  rw [State.bankTakes, running]

/-! ### A bank record after a report (R141, R142) -/

/-- A record that has captured a report of class `c` (R141). -/
def BankRec.captured (c : ErrorClass) (now : Word32) (code : ErrorCode) (subject : Byte) : BankRec :=
  { valid := true, uncorrected := c = .uncorrected, overflow := false, code := some code, subject := subject,
    second := now, count := 1 }

/-- A record that has counted one more report and keeps the error it holds (R142). -/
def BankRec.counted (r : BankRec) : BankRec :=
  { r with count := if r.count < 65535 then r.count + 1 else r.count, overflow := true }

/-- A count inside its range stops at 65535. -/
theorem BankRec.counted_of_count_le {r : BankRec} (bound : r.count ≤ 65535) :
    r.counted = { r with count := if r.count < 65535 then r.count + 1 else 65535, overflow := true } := by
  have saturates : (if r.count < 65535 then r.count + 1 else r.count) = if r.count < 65535 then r.count + 1 else 65535 := by
    split_ifs <;> omega
  rw [BankRec.counted, saturates]

section Take

variable {r : BankRec} {now : Word32} {code : ErrorCode} {subject : Byte}

theorem BankRec.take_of_empty (empty : r.valid = false) :
    r.take now code subject = .captured code.errorClass now code subject := by
  simp [BankRec.take, BankRec.captured, empty]

theorem BankRec.take_of_replacing (valid : r.valid = true) (held : r.uncorrected = false)
    (ofClass : code.errorClass = .uncorrected) :
    r.take now code subject =
      { r.counted with uncorrected := true, code := some code, subject := subject, second := now } := by
  simp [BankRec.take, BankRec.counted, valid, held, ofClass]

theorem BankRec.take_of_counting (valid : r.valid = true)
    (kept : r.uncorrected = true ∨ code.errorClass = .corrected) : r.take now code subject = r.counted := by
  obtain held | ofClass := kept
  · simp [BankRec.take, BankRec.counted, valid, held]
  · simp [BankRec.take, BankRec.counted, valid, ofClass]

end Take

/-! ### The class that a record holds (R140) -/

theorem BankRec.heldClass_of_empty {r : BankRec} (empty : r.valid = false) : r.heldClass = .empty := by
  simp [BankRec.heldClass, empty]

theorem BankRec.heldClass_of_corrected {r : BankRec} (valid : r.valid = true) (held : r.uncorrected = false) :
    r.heldClass = .corrected := by
  simp [BankRec.heldClass, valid, held]

theorem BankRec.heldClass_of_uncorrected {r : BankRec} (valid : r.valid = true) (held : r.uncorrected = true) :
    r.heldClass = .uncorrected := by
  simp [BankRec.heldClass, valid, held]

/-- The class that a record holds once it has captured a report of a class. -/
def ErrorClass.held : ErrorClass → HeldClass
  | .corrected => .corrected
  | .uncorrected => .uncorrected

theorem ErrorClass.empty_ne_held (c : ErrorClass) : HeldClass.empty ≠ c.held := by
  cases c <;> decide

theorem BankRec.heldClass_captured (c : ErrorClass) (now : Word32) (code : ErrorCode) (subject : Byte) :
    (BankRec.captured c now code subject).heldClass = c.held := by
  cases c <;> rfl

theorem BankRec.heldClass_counted (r : BankRec) : r.counted.heldClass = r.heldClass := rfl

/-! ### A report and its FAULT change (R143) -/

section Report

variable {s : State} {b : BankId} {code : ErrorCode} {subject : Byte}

theorem report_of_not_bankTakes (takes : s.bankTakes b = false) : report b code subject s = s := by
  simp [report, takes]

/-- A report that leaves the held class as it was changes the record alone. -/
theorem report_of_heldClass_eq {r : BankRec} (takes : s.bankTakes b = true)
    (taken : (s.bank b).take s.clock.uptime code subject = r) (same : (s.bank b).heldClass = r.heldClass) :
    report b code subject s = s.setBank b r := by
  rw [report, if_pos takes, taken, replaceBank, if_pos same]

/-- A report that moves the held class hands the event queue that change, after the record has changed. -/
theorem report_of_heldClass_ne {r : BankRec} {old new : HeldClass} (takes : s.bankTakes b = true)
    (taken : (s.bank b).take s.clock.uptime code subject = r) (before : (s.bank b).heldClass = old)
    (after : r.heldClass = new) (moved : old ≠ new) :
    report b code subject s = takeChange (.fault b) old.rank new.rank (s.setBank b r) := by
  subst before after
  rw [report, if_pos takes, taken, replaceBank, if_neg moved]

/-- R141: an empty bank captures the report, and its class moves from EMPTY to the class of the code. -/
theorem report_of_empty {c : ErrorClass} (takes : s.bankTakes b = true) (empty : (s.bank b).valid = false)
    (ofClass : code.errorClass = c) :
    report b code subject s =
      takeChange (.fault b) HeldClass.empty.rank c.held.rank
        (s.setBank b (.captured c s.clock.uptime code subject)) := by
  subst ofClass
  exact report_of_heldClass_ne takes (BankRec.take_of_empty empty) (BankRec.heldClass_of_empty empty)
    (BankRec.heldClass_captured ..) (ErrorClass.empty_ne_held _)

/-- R142: an uncorrected report takes the place of a corrected error that the bank holds. -/
theorem report_of_replacing (takes : s.bankTakes b = true) (valid : (s.bank b).valid = true)
    (held : (s.bank b).uncorrected = false) (ofClass : code.errorClass = .uncorrected) :
    report b code subject s =
      takeChange (.fault b) HeldClass.corrected.rank HeldClass.uncorrected.rank
        (s.setBank b { (s.bank b).counted with
          uncorrected := true, code := some code, subject := subject, second := s.clock.uptime }) :=
  report_of_heldClass_ne takes (BankRec.take_of_replacing valid held ofClass)
    (BankRec.heldClass_of_corrected valid held) (BankRec.heldClass_of_uncorrected valid rfl) (by decide)

/-- R142: any other report to a VALID bank is counted, with no FAULT change. -/
theorem report_of_counting (takes : s.bankTakes b = true) (valid : (s.bank b).valid = true)
    (kept : (s.bank b).uncorrected = true ∨ code.errorClass = .corrected) :
    report b code subject s = s.setBank b (s.bank b).counted :=
  report_of_heldClass_eq takes (BankRec.take_of_counting valid kept) (BankRec.heldClass_counted _).symm

end Report

/-- Settles O49: the phase says whether the bank takes the report; a bank that does captures it, replaces the error it
holds, or counts it. -/
theorem banksTakeReports : Obligations.BanksTakeReports := by
  intro s b code subject r now counted holding
  refine ⟨fun restoring other => ?_, fun bound taking => ?_, by decide, by decide⟩
  · exact report_of_not_bankTakes (by simpa [State.bankTakes_of_restoring restoring] using other)
  · have takes : s.bankTakes b = true := by
      obtain running | ⟨restoring, rfl⟩ := taking
      · exact State.bankTakes_of_running running b
      · exact State.bankTakes_of_restoring restoring .table
    have counts : r.counted = counted := BankRec.counted_of_count_le bound
    exact ⟨report_of_empty takes, report_of_empty takes, counts ▸ report_of_replacing takes,
      counts ▸ report_of_counting takes⟩

end Sys2Proof.Machine

/-! PROOF. The step and the start values (R165, R166), and the invariants that each primitive update of the model keeps
by itself: the event queue (R111 to R118), the error banks (R140 to R143), the two output lines (R70, R107) and the
capture recorder (R128 to R135). The induction over the commands is that of `KeptByCommands`; here stands what each
update does to one law. -/

namespace Sys2Proof.Machine

/-- Settles O1: a step on a queue with a front command is that command on the queue's rest. -/
theorem stepTakesTheFrontCommand : Obligations.StepTakesTheFrontCommand := fun _ _ => rfl

/-! ### The event queue (R111 to R118) -/

/-- The 64 keys of R111. -/
def EventKey.all : List EventKey :=
  (List.finRange 16).map .level ++ (List.finRange 40).map .channel ++ .station :: BankId.inOrder.map .fault

theorem EventKey.mem_all (key : EventKey) : key ∈ EventKey.all := by
  cases key with
  | level t => simp [EventKey.all]
  | channel c => simp [EventKey.all]
  | station => simp [EventKey.all]
  | fault b => cases b <;> simp [EventKey.all, BankId.inOrder]

/-- There are 64 keys, so a queue without two records of one key holds at most 64. -/
theorem EventQueue.Law.length_le {q : EventQueue} (law : q.Law) : q.records.length ≤ 64 := by
  obtain ⟨distinct, -, -⟩ := law
  have bound := (List.subperm_of_subset distinct fun key _ => EventKey.mem_all key).length_le
  rwa [List.length_map] at bound

theorem newRecord_law (now : Word32) {key : EventKey} {f t : Nat} (allowed : changeAllowed key f t) :
    (newRecord now key f t).Law :=
  ⟨le_rfl, by simp [newRecord], allowed.1, allowed.2, le_max_left _ _, le_max_right _ _⟩

theorem foldRecord_law (now : Word32) {f t : Nat} {r : EventRec} (allowed : changeAllowed r.key f t) (law : r.Law) :
    (foldRecord now f t r).Law := by
  obtain ⟨changesLow, changesHigh, priorityLow, priorityHigh, fromLe, toLe⟩ := law
  obtain ⟨low, high⟩ := allowed
  refine ⟨?_, ?_, ?_, ?_, fromLe.trans (le_max_left _ _), le_max_right _ _⟩
  · show 1 ≤ sat255 r.changes
    unfold sat255; split <;> omega
  · show sat255 r.changes ≤ 255
    unfold sat255; split <;> omega
  · exact priorityLow.trans (le_max_left _ _)
  · exact max_le priorityHigh high

theorem takeChange_keeps_queueLaw {key : EventKey} {f t : Nat} {s : State} (allowed : changeAllowed key f t)
    (law : s.queue.Law) : (takeChange key f t s).queue.Law := by
  obtain ⟨distinct, sound, bound⟩ := law
  refine ⟨?_, fun r hr => ?_, bound⟩
  · show ((takeInto _ _ _ _ _).map EventRec.key).Nodup
    rw [takeInto_keys]
    split_ifs with held
    · exact distinct
    · exact distinct.append (List.nodup_singleton _) (List.disjoint_singleton.2 held)
  · obtain old | ⟨q, hq, rfl, rfl⟩ | rfl := takeInto_mem _ _ _ _ _ r hr
    · exact sound r old
    · exact foldRecord_law _ allowed (sound q hq)
    · exact newRecord_law _ allowed

theorem replaceBank_keeps_queueLaw {b : BankId} {r : BankRec} {s : State} (law : s.queue.Law) :
    (replaceBank b r s).queue.Law := by
  unfold replaceBank
  split
  · exact law
  · exact takeChange_keeps_queueLaw (s := s.setBank b r) (changeAllowed_fault _ _ _) law

theorem takeEvents_keeps_queueLaw {s : State} (n : Nat) (law : s.queue.Law) :
    ({ s.queue with records := (selectEvents s.queue.reportFloor n s.queue.records).2 } : EventQueue).Law := by
  obtain ⟨distinct, sound, bound⟩ := law
  obtain ⟨-, left, -, -⟩ := selectEvents_spec s.queue.reportFloor n s.queue.records
  exact ⟨distinct.sublist (left.map _), fun r hr => sound r (left.subset hr), bound⟩

theorem EventQueue.initial_law : EventQueue.initial.Law := by
  simp [EventQueue.Law, EventQueue.initial]

theorem queueLaw_kept : KeptByCommands (fun s => s.queue.Law) where
  setChannel _ _ _ := id
  setXf _ _ _ _ := id
  alarm _ _ _ := id
  setStation _ _ _ := id
  enter _ _ := id
  write _ _ := id
  takeChange _ _ _ _ := takeChange_keeps_queueLaw
  report s b c x _ law := by
    unfold report
    split
    · exact replaceBank_keeps_queueLaw law
    · exact law
  setFrames _ _ := id
  setWrite _ _ := id
  armRestart _ := id
  takeEvents _ n := takeEvents_keeps_queueLaw n
  setFloor _ _ bound := fun ⟨distinct, sound, _⟩ => ⟨distinct, sound, bound⟩
  afterRead _ _ := id
  emptyBank _ _ := replaceBank_keeps_queueLaw
  setSetup _ _ := id
  setChannelEntry _ _ _ := id
  setXfEntry _ _ _ := id
  setMemberMap _ _ := id
  setStore _ _ := id
  countSpell _ := id
  discard _ _ _ := EventQueue.initial_law
  warm _ _ := EventQueue.initial_law
  run _ := id
  timers _ _ := id
  setClock _ _ := id
  beginWalk _ := id

/-- Settles O5: each change appends or folds a sound record, and a sound queue holds each of the 64 keys at most once. -/
theorem eventQueueStaysSound : Obligations.EventQueueStaysSound := by
  intro s t law ht
  have kept : t.queue.Law := queueLaw_kept.step (fun _ _ => id) (fun _ _ => id) law ht
  exact ⟨kept, kept.length_le⟩

/-! ### The error banks (R140 to R143) -/

theorem BankRec.empty_law (b : BankId) : BankRec.empty.Law b := ⟨fun _ => rfl, nofun⟩

theorem BankRec.captured_law {b : BankId} {code : ErrorCode} (takes : b.takes code = true) (now : Word32)
    (subject : Byte) : (BankRec.captured code.errorClass now code subject).Law b := by
  refine ⟨nofun, fun _ => ⟨⟨code, rfl, takes, ?_⟩, le_rfl, by simp [BankRec.captured], by simp [BankRec.captured]⟩⟩
  simp [BankRec.captured]

/-- What a further report does to a VALID record's count and OVERFLOW (R142). -/
theorem BankRec.counted_count {r : BankRec} (low : 1 ≤ r.count) (high : r.count ≤ 65535) :
    1 ≤ r.counted.count ∧ r.counted.count ≤ 65535 ∧ (r.counted.overflow = true ↔ 2 ≤ r.counted.count) := by
  unfold BankRec.counted
  split_ifs <;> simp <;> omega

theorem BankRec.take_law {b : BankId} {r : BankRec} {code : ErrorCode} (takes : b.takes code = true) (now : Word32)
    (subject : Byte) (law : r.Law b) : (r.take now code subject).Law b := by
  obtain ⟨-, held⟩ := law
  cases valid : r.valid with
  | false =>
    rw [BankRec.take_of_empty valid]
    exact BankRec.captured_law takes now subject
  | true =>
    obtain ⟨hasCode, low, high, -⟩ := held valid
    have counts := BankRec.counted_count low high
    by_cases replaces : r.uncorrected = false ∧ code.errorClass = .uncorrected
    · rw [BankRec.take_of_replacing valid replaces.1 replaces.2]
      exact ⟨by simp [BankRec.counted, valid], fun _ => ⟨⟨code, rfl, takes, by simp [replaces.2]⟩, counts⟩⟩
    · have keeps : r.uncorrected = true ∨ code.errorClass = .corrected := by
        cases hu : r.uncorrected <;> cases hc : code.errorClass <;> simp_all
      rw [BankRec.take_of_counting valid keeps]
      exact ⟨by simp [BankRec.counted, valid], fun _ => ⟨hasCode, counts⟩⟩

theorem replaceBank_bank (b : BankId) (r : BankRec) (s : State) (o : BankId) :
    (replaceBank b r s).bank o = if b = o then r else s.bank o := by
  unfold State.bank
  rw [replaceBank_banks]
  exact State.setBank_bank s b o r

theorem replaceBank_keeps_banksLaw {b : BankId} {r : BankRec} {s : State} (sound : r.Law b) (law : s.BanksLaw) :
    (replaceBank b r s).BanksLaw := by
  intro o
  rw [replaceBank_bank]
  split_ifs with h
  · exact h ▸ sound
  · exact law o

theorem report_keeps_banksLaw {b : BankId} {code : ErrorCode} {subject : Byte} {s : State}
    (takes : b.takes code = true) (law : s.BanksLaw) : (report b code subject s).BanksLaw := by
  unfold report
  split
  · exact replaceBank_keeps_banksLaw (BankRec.take_law takes _ _ (law b)) law
  · exact law

theorem reset_bank (b : BankId) : State.reset.bank b = BankRec.empty := by
  simp [State.bank, State.reset]

theorem banksLaw_kept : KeptByCommands State.BanksLaw where
  setChannel _ _ _ := id
  setXf _ _ _ _ := id
  alarm _ _ _ := id
  setStation _ _ _ := id
  enter _ _ := id
  write _ _ := id
  takeChange _ _ _ _ _ := id
  report _ _ _ _ := report_keeps_banksLaw
  setFrames _ _ := id
  setWrite _ _ := id
  armRestart _ := id
  takeEvents _ _ := id
  setFloor _ _ _ := id
  afterRead _ _ := id
  emptyBank _ b := replaceBank_keeps_banksLaw (BankRec.empty_law b)
  setSetup _ _ := id
  setChannelEntry _ _ _ := id
  setXfEntry _ _ _ := id
  setMemberMap _ _ := id
  setStore _ _ := id
  countSpell _ := id
  discard _ _ _ b := (reset_bank b).symm ▸ BankRec.empty_law b
  warm _ := id
  run _ := id
  timers _ _ := id
  setClock _ _ := id
  beginWalk _ := id

/-- Settles O6: a report leaves a sound record in its bank, and a clear the empty one. -/
theorem banksStaySound : Obligations.BanksStaySound :=
  fun _ _ law ht => banksLaw_kept.step (fun _ _ => id) (fun _ _ => id) law ht

/-! ### The output lines (R70, R107) -/

/-- ALARM OUT stands as the flags say. -/
def State.AlarmTrue (s : State) : Prop := s.alarmOut = s.anyAlarming

theorem State.outputsLaw_iff (s : State) :
    s.OutputsLaw ↔ s.AlarmTrue ∧ (s.stormOut = true ↔ s.station.state = .storm) := by
  unfold State.OutputsLaw State.AlarmTrue
  rw [← anyAlarming_iff, ← Bool.eq_iff_iff]

/-- With no transformer in service no flag asserts the line. -/
theorem anyAlarming_of_off {s : State} (off : ∀ t : Xf, (s.xf t).inService = false) : s.anyAlarming = false := by
  rw [← Bool.not_eq_true, anyAlarming_iff]
  simp [off]

theorem reset_xf (t : Xf) : State.reset.xf t = XfRec.off := by
  simp [State.xf, State.reset]

theorem warmValues_xf (s : State) (t : Xf) :
    (warmValues s).xf t = XfRec.offWith (s.xf t).theta (s.xf t).thermal :=
  tabulate_get (fun t => XfRec.offWith (s.xfs[t]).theta (s.xfs[t]).thermal) t

theorem outputsLaw_discard (phase : Phase) (s : State) : (discardWorking phase s).OutputsLaw := by
  have off : ∀ t : Xf, ((discardWorking phase s).xf t).inService = false := fun t =>
    congrArg XfRec.inService (reset_xf t)
  exact (State.outputsLaw_iff _).2 ⟨(anyAlarming_of_off off).symm, nofun, nofun⟩

theorem outputsLaw_warm (s : State) : (warmValues s).OutputsLaw := by
  have off : ∀ t : Xf, ((warmValues s).xf t).inService = false := fun t => by rw [warmValues_xf]; rfl
  exact (State.outputsLaw_iff _).2 ⟨(anyAlarming_of_off off).symm, nofun, nofun⟩

theorem outputsLaw_kept : KeptByCommands State.OutputsLaw where
  setChannel _ _ _ := id
  setXf s t r same law := by
    rw [State.outputsLaw_iff] at law ⊢
    exact ⟨law.1.trans (anyAlarming_setXf s t r same).symm, law.2⟩
  alarm s t r law := by
    rw [State.outputsLaw_iff] at law ⊢
    exact ⟨rfl, law.2⟩
  setStation s r same law := ⟨law.1, law.2.trans (by rw [State.setStation_station, same])⟩
  enter s new law := ⟨law.1, by simp⟩
  write _ _ := id
  takeChange _ _ _ _ _ := id
  report s b c x _ law := by rw [report_eq]; exact law
  setFrames _ _ := id
  setWrite _ _ := id
  armRestart _ := id
  takeEvents _ _ := id
  setFloor _ _ _ := id
  afterRead _ _ := id
  emptyBank s b law := by
    unfold replaceBank
    split <;> exact law
  setSetup _ _ := id
  setChannelEntry _ _ _ := id
  setXfEntry _ _ _ := id
  setMemberMap _ _ := id
  setStore _ _ := id
  countSpell _ := id
  discard s phase _ := outputsLaw_discard phase s
  warm s _ := outputsLaw_warm s
  run _ := id
  timers _ _ := id
  setClock _ _ := id
  beginWalk _ := id

/-- Settles O7: each update of a flag or of the service state sets ALARM OUT again, and each entry to a station state
sets STORM OUT with it. -/
theorem outputLinesStayTrue : Obligations.OutputLinesStayTrue :=
  fun _ _ law ht => outputsLaw_kept.step (fun _ _ => id) (fun _ _ => id) law ht

/-! ### The capture recorder (R128 to R135) -/

/-- The readable records of a recorder that takes one more are at most its own and the new one. -/
theorem Recorder.Law.readable_write_le {r : Recorder} (law : r.Law) (c : CaptureRec) :
    (r.write c).readable ≤ r.readable + 1 ∧ (r.write c).readable ≤ 512 := by
  obtain ⟨-, unfilled, -⟩ := law
  have filledIff := r.write_filled_iff c
  unfold readable Config.ringSlots
  rw [write_run]
  cases hf : r.filled with
  | true => simp [filledIff.2 (.inl hf)]
  | false =>
    have small := unfilled hf
    rw [hf] at filledIff
    simp only [Bool.false_eq_true, false_or, if_false] at filledIff ⊢
    split_ifs with full
    · have := filledIff.1 full
      bv_omega
    · have := mt filledIff.2 full
      bv_omega

theorem Recorder.write_law {r : Recorder} (law : r.Law) (c : CaptureRec) : (r.write c).Law := by
  have atMost := law.readable_write_le c
  obtain ⟨-, unfilled, readable⟩ := law
  refine ⟨fun clear => ?_, fun notFilled => ?_, fun i low high => ?_⟩
  · rw [← Bool.not_eq_true, write_overrun_iff, not_or] at clear
    exact not_lt.1 clear.2
  · rw [← Bool.not_eq_true, write_filled_iff, not_or, Bool.not_eq_true] at notFilled
    have small := unfilled notFilled.1
    rw [write_run]
    bv_omega
  · rw [write_ring]
    split_ifs with same
    · rfl
    · have earlier : i ≠ 1 := by
        rintro rfl
        exact same (congrArg ringSlot (by rw [write_run]; bv_omega))
      have index : (r.write c).run - BitVec.ofNat 32 i = r.run - BitVec.ofNat 32 (i - 1) := by
        rw [write_run]
        bv_omega
      rw [index]
      exact readable (i - 1) (by omega) (by omega)

theorem Recorder.afterRead_law {r : Recorder} (law : r.Law) (start : Word32) : (r.afterRead start).Law := by
  have distance := (law.distance_effectiveStart_le start).trans law.readable_le
  obtain ⟨-, unfilled, readable⟩ := law
  exact ⟨fun _ => distance, unfilled, readable⟩

theorem Recorder.initial_law : Recorder.initial.Law :=
  ⟨fun _ => by simp [Recorder.initial, indexDistance], fun _ => by simp [Recorder.initial],
    fun i low high => by simp [Recorder.readable, Recorder.initial] at high; omega⟩

theorem Recorder.Law.fill_le {r : Recorder} (law : r.Law) : r.fill ≤ 512 := by
  obtain ⟨distance, -, -⟩ := law
  cases ho : r.overrun with
  | true => exact (r.fill_of_overrun ho).le
  | false => exact (r.fill_of_not_overrun ho).trans_le (distance ho)

theorem recorderLaw_kept : KeptByCommands (fun s => s.recorder.Law) where
  setChannel _ _ _ := id
  setXf _ _ _ _ := id
  alarm _ _ _ := id
  setStation _ _ _ := id
  enter _ _ := id
  write _ c law := Recorder.write_law law c
  takeChange _ _ _ _ _ := id
  report s b c x _ law := by rw [report_eq]; exact law
  setFrames _ _ := id
  setWrite _ _ := id
  armRestart _ := id
  takeEvents _ _ := id
  setFloor _ _ _ := id
  afterRead _ start law := Recorder.afterRead_law law start
  emptyBank s b law := by
    unfold replaceBank
    split <;> exact law
  setSetup _ _ := id
  setChannelEntry _ _ _ := id
  setXfEntry _ _ _ := id
  setMemberMap _ _ := id
  setStore _ _ := id
  countSpell _ := id
  discard _ _ _ := Recorder.initial_law
  warm _ _ := Recorder.initial_law
  run _ := id
  timers _ _ := id
  setClock _ _ := id
  beginWalk _ := id

/-- Settles O15: a write keeps each readable record in its slot, a read moves the held index no further back than the
oldest readable record, and fill is then the distance between the two indices or full. -/
theorem recorderStaysSound : Obligations.RecorderStaysSound := by
  intro s t law ht
  have kept : t.recorder.Law := recorderLaw_kept.step (fun _ _ => id) (fun _ _ => id) law ht
  exact ⟨kept, kept.fill_le⟩

/-! ### The start values (R4, R33, R97, R140, R165) -/

theorem reset_channel (c : Channel) : State.reset.channel c = ChannelRec.off := by
  simp [State.channel, State.reset]

theorem reset_xfEntry (t : Xf) : State.reset.xfEntry t = XfEntry.factory := by
  simp [State.xfEntry, State.reset]

theorem SlotSet.empty_get (j : Slot) : SlotSet.empty[j] = false := by
  simp [SlotSet.empty]

/-- Settles O3: each record of the start state is the start record of its block, read field by field. -/
theorem resetHoldsTheStartValues : Obligations.ResetHoldsTheStartValues := by
  refine ⟨rfl, fun c => ?_, fun x => ?_, rfl, rfl, rfl, rfl, fun i => ?_, rfl, rfl, rfl, rfl, reset_bank, rfl, rfl,
    rfl, rfl⟩
  · rw [reset_channel]
    exact ⟨rfl, rfl, rfl, rfl, rfl, rfl, rfl, rfl, rfl, rfl, rfl, rfl⟩
  · rw [reset_xf]
    exact ⟨rfl, rfl, SlotSet.empty_get, rfl, SlotSet.empty_get, rfl, rfl, rfl, rfl, rfl, rfl, rfl, rfl, rfl, rfl⟩
  · exact Vector.getElem_replicate i.isLt

theorem reset_countedXfs : State.reset.countedXfs = 0 := by
  have none : ∀ t : Xf, (State.reset.xfs[t]).counted = false := fun t => congrArg XfRec.counted (reset_xf t)
  exact List.countP_eq_zero.2 fun t _ => Bool.eq_false_iff.1 (none t)

/-- Settles O4: each law is read off the start records. -/
theorem lawsHoldAtReset : Obligations.LawsHoldAtReset := by
  refine ⟨EventQueue.initial_law, fun b => (reset_bank b).symm ▸ BankRec.empty_law b,
    outputsLaw_discard .restoring State.reset, ?slots, fun c => ?timers, ?service, ?station, fun t => ?levels,
    fun t => ?runs, fun t => ?thermal, Recorder.initial_law⟩
  case slots =>
    exact ⟨⟨by decide, by decide, by decide, fun _ => rfl, fun _ => ⟨rfl, rfl⟩, by decide⟩, by decide, nofun⟩
  case timers => rw [reset_channel]; decide
  case service => exact ⟨fun _ => ⟨rfl, fun t => by rw [reset_xf]; rfl⟩, nofun⟩
  case station => exact ⟨reset_countedXfs.symm, by decide, nofun, by decide, by decide, nofun⟩
  case levels => rw [reset_xf]; exact nofun
  case runs => rw [reset_xf, reset_xfEntry]; decide
  case thermal => rw [reset_xf]; exact ⟨by decide, by decide, fun _ _ => ⟨rfl, rfl⟩⟩

end Sys2Proof.Machine

/-! PROOF. What a request can do, once for every request: it composes an answer after one piece of work of the blocks, or
it begins a store write. The invariants that look at more than the primitive updates show are proved along this list. -/

namespace Sys2Proof.Machine

/-! ### The work that a request has the blocks do -/

/-- What stands between a request's taking and its answer. -/
inductive RequestWork (s : State) : State → Prop
  | nothing : RequestWork s s
  | takeEvents (n : Nat) :
      RequestWork s (s.setQueue { s.queue with records := (selectEvents s.queue.reportFloor n s.queue.records).2 })
  | setFloor (n : Nat) : RequestWork s (s.setQueue { s.queue with reportFloor := n })
  | afterRead (start : Word32) : RequestWork s (s.setRecorder (s.recorder.afterRead start))
  | acknowledgeOne (t : Xf) : RequestWork s (acknowledgeFlag t s)
  | acknowledgeEach : RequestWork s (acknowledgeAll s).1
  | clearOne (b : BankId) : RequestWork s (clearOne s b)
  | clearEach : RequestWork s (clearAll s).1
  | buildStatus : RequestWork s (buildStatus s)
  | armRestart : RequestWork s { s with restartArmed := true }

/-- What a request makes of the state that holds it: an answer after its work, or a store write begun on an entry whose
service state is the one that the write supposes (R173, R174). -/
inductive Served (rq : Request) (s : State) : State → Prop
  | answered {u : State} (work : RequestWork s u) (r : Result) (d : Nat) (data : List Byte) :
      Served rq s (respond rq r d data u)
  | begun (w : StoreWrite) (supposed : w.Supposes s) : Served rq s (beginWrite w s)

section Served
variable {rq : Request} {s : State}

theorem Served.refused (r : Result) (d : Nat) : Served rq s (refuse rq r d s) := .answered .nothing r d []

theorem Served.done {u : State} (work : RequestWork s u) (data : List Byte) : Served rq s (respondDone rq data u) :=
  .answered work .done 0 data

/-- The check of the body's length, which every request makes first. -/
theorem Served.ofLength {n : Nat} {t : State} (rest : Served rq s t) :
    Served rq s (if rq.body.length ≠ n then refuse rq .badLength 0 s else t) := by
  split
  · exact .refused _ _
  · exact rest

variable (rq s)

theorem serveReadSetup_served : Served rq s (serveReadSetup rq s) := .ofLength (.done .nothing _)

theorem serveReadChannel_served : Served rq s (serveReadChannel rq s) := by
  refine .ofLength ?_
  split
  · exact .refused _ _
  · exact .done .nothing _

theorem serveReadTransformer_served : Served rq s (serveReadTransformer rq s) := by
  refine .ofLength ?_
  split
  · exact .refused _ _
  · exact .done .nothing _

theorem serveReadState_served : Served rq s (serveReadState rq s) := by
  refine .ofLength ?_
  split_ifs
  · split
    · exact .refused _ _
    · exact .done .nothing _
  · split
    · exact .refused _ _
    · exact .done .nothing _
  · exact .done .nothing _
  · exact .refused _ _
  · exact .refused _ _

theorem serveWriteSetup_served : Served rq s (serveWriteSetup rq s) := by
  refine .ofLength ?_
  split_ifs
  · exact .refused _ _
  · exact .refused _ _
  · split
    · exact .refused _ _
    · exact .begun _ trivial

theorem serveWriteChannel_served : Served rq s (serveWriteChannel rq s) := by
  refine .ofLength ?_
  split
  · exact .refused _ _
  unfold writeChannelEntry
  split_ifs
  · exact .refused _ _
  · exact .refused _ _
  split
  · exact .refused _ _
  split
  · exact .refused _ _
  · exact .begun _ trivial

theorem serveWriteTransformer_served : Served rq s (serveWriteTransformer rq s) := by
  refine .ofLength ?_
  split
  · exact .refused _ _
  unfold writeXfEntry
  split_ifs with _ serving
  · exact .refused _ _
  · exact .refused _ _
  split
  · exact .refused _ _
  split
  · exact .refused _ _
  · exact .begun _ (Bool.eq_false_iff.2 serving)

theorem serviceChannel_served (c : Channel) (d : Nat) : Served rq s (serviceChannel rq c d s) := by
  unfold serviceChannel
  split_ifs
  · exact .refused _ _
  · exact .refused _ _
  · exact .refused _ _
  · exact .done .nothing _
  · exact .begun _ trivial

theorem serviceXf_served (t : Xf) (d : Nat) : Served rq s (serviceXf rq t d s) := by
  unfold serviceXf
  split_ifs with _ _ _ stands
  · exact .refused _ _
  · exact .refused _ _
  · exact .refused _ _
  · exact .done .nothing _
  · exact .begun _ (Bool.eq_not_of_ne (Ne.symm stands))

theorem serveSetService_served : Served rq s (serveSetService rq s) := by
  refine .ofLength ?_
  split_ifs
  · split
    · exact .refused _ _
    · exact serviceChannel_served _ _ _ _
  · split
    · exact .refused _ _
    · exact serviceXf_served _ _ _ _
  · exact .refused _ _

theorem serveSetGuard_served (lock : Bool) : Served rq s (serveSetGuard lock rq s) := by
  refine .ofLength ?_
  split_ifs
  · exact .refused _ _
  · exact .refused _ _
  · exact .refused _ _
  · exact .begun _ trivial

theorem serveAcknowledge_served : Served rq s (serveAcknowledge rq s) := by
  refine .ofLength ?_
  split_ifs
  · exact .done .acknowledgeEach _
  split
  · exact .refused _ _
  · exact .done (.acknowledgeOne _) _

theorem serveReadEvents_served : Served rq s (serveReadEvents rq s) := by
  refine .ofLength ?_
  split_ifs
  · exact .refused _ _
  · exact .done (.takeEvents _) _

theorem serveSetFloor_served : Served rq s (serveSetFloor rq s) := by
  refine .ofLength ?_
  split_ifs
  · exact .refused _ _
  · exact .done (.setFloor _) _

theorem serveReadCapture_served : Served rq s (serveReadCapture rq s) := by
  refine .ofLength ?_
  split_ifs
  · exact .refused _ _
  · exact .done (.afterRead _) _

theorem serveReadBank_served : Served rq s (serveReadBank rq s) := by
  refine .ofLength ?_
  split
  · exact .refused _ _
  · exact .done .nothing _

theorem serveClearBank_served : Served rq s (serveClearBank rq s) := by
  refine .ofLength ?_
  split_ifs
  · exact .done .clearEach _
  split
  · exact .refused _ _
  · exact .done (.clearOne _) _

theorem serveSendStatus_served : Served rq s (serveSendStatus rq s) := .ofLength (.done .buildStatus _)

theorem serveRestart_served : Served rq s (serveRestart rq s) := .ofLength (.done .armRestart _)

theorem serveByCode_served (lock : Bool) : Served rq s (serveByCode lock rq s) := by
  unfold serveByCode
  split
  · exact .refused _ _
  split
  · exact serveReadSetup_served _ _
  · exact serveWriteSetup_served _ _
  · exact serveReadChannel_served _ _
  · exact serveWriteChannel_served _ _
  · exact serveReadTransformer_served _ _
  · exact serveWriteTransformer_served _ _
  · exact serveSetService_served _ _
  · exact serveAcknowledge_served _ _
  · exact serveReadState_served _ _
  · exact serveReadEvents_served _ _
  · exact serveSetFloor_served _ _
  · exact serveReadCapture_served _ _
  · exact serveReadBank_served _ _
  · exact serveClearBank_served _ _
  · exact serveSetGuard_served _ _ _
  · exact serveSendStatus_served _ _
  · exact serveRestart_served _ _
  · exact .refused _ _

end Served

/-! ### Intake and the request rows -/

/-- What request intake makes of the state. -/
inductive TakenIn (source : Byte) (body : List Byte) (s : State) : State → Prop
  | closed (phase : s.phase = .powerAbsent ∨ s.phase = .heldInReset) : TakenIn source body s s
  | overrun (occupied : s.frames.response ≠ .free) : TakenIn source body s (report .linkB .requestOverrun source s)
  | notReady (restoring : s.phase = .restoring) (free : s.frames.response = .free) :
      TakenIn source body s (s.answered ⟨source, body⟩ .notReady 0 [])
  | served {t : State} (serving : s.Serving) (does : Served ⟨source, body⟩ (holdRequest ⟨source, body⟩ s) t) :
      TakenIn source body s (arbiter t)

theorem intake_takenIn {serve : Request → State → State} (hserve : ∀ rq s, Served rq s (serve rq s)) (source : Byte)
    (body : List Byte) (s : State) : TakenIn source body s (intake source body serve s) := by
  by_cases free : s.frames.response = .free
  · cases phase : s.phase with
    | powerAbsent => rw [intake_closed (.inl phase)]; exact .closed (.inl phase)
    | heldInReset => rw [intake_closed (.inr phase)]; exact .closed (.inr phase)
    | restoring => rw [intake_restoring phase free]; exact .notReady phase free
    | running => rw [intake_serving ⟨phase, free⟩]; exact .served ⟨phase, free⟩ (hserve _ _)
  · cases phase : s.phase with
    | powerAbsent => rw [intake_closed (.inl phase)]; exact .closed (.inl phase)
    | heldInReset => rw [intake_closed (.inr phase)]; exact .closed (.inr phase)
    | restoring => rw [intake_occupied (.inr phase) free]; exact .overrun free
    | running => rw [intake_occupied (.inl phase) free]; exact .overrun free

/-- Every request row is request intake of the request that it carries. -/
theorem exec_request {i : Instr} {rq : Request} (carries : requestOf i = some rq) (s : State) :
    ∃ serve : Request → State → State, (∀ rq s, Served rq s (serve rq s)) ∧
      exec i s = .next (intake rq.source rq.body serve s) := by
  cases i <;> cases carries
  case readSetup => exact ⟨_, serveReadSetup_served, rfl⟩
  case writeSetup => exact ⟨_, serveWriteSetup_served, rfl⟩
  case readChannel => exact ⟨_, serveReadChannel_served, rfl⟩
  case writeChannel => exact ⟨_, serveWriteChannel_served, rfl⟩
  case readTransformer => exact ⟨_, serveReadTransformer_served, rfl⟩
  case writeTransformer => exact ⟨_, serveWriteTransformer_served, rfl⟩
  case setService => exact ⟨_, serveSetService_served, rfl⟩
  case acknowledge => exact ⟨_, serveAcknowledge_served, rfl⟩
  case acknowledgeAll => exact ⟨_, serveAcknowledge_served, rfl⟩
  case readState => exact ⟨_, serveReadState_served, rfl⟩
  case readEvents => exact ⟨_, serveReadEvents_served, rfl⟩
  case setFloor => exact ⟨_, serveSetFloor_served, rfl⟩
  case readCapture => exact ⟨_, serveReadCapture_served, rfl⟩
  case readBank => exact ⟨_, serveReadBank_served, rfl⟩
  case clearBank => exact ⟨_, serveClearBank_served, rfl⟩
  case setGuard => exact ⟨_, fun rq s => serveSetGuard_served rq s _, rfl⟩
  case sendStatus => exact ⟨_, serveSendStatus_served, rfl⟩
  case restart => exact ⟨_, serveRestart_served, rfl⟩

end Sys2Proof.Machine

/-! PROOF. What a command can do, once for every command, and with it the two invariants that look beside the blocks: the
settled state (R165, R177, R181) and the slots (R156 to R164, R177, R181). -/

namespace Sys2Proof.Machine

/-! ### The commands -/

/-- The arrival of a transmission hands a request over, or does the same whatever takes the requests (R152 to R158). -/
theorem transmissionEnds_cases (request other : GoodFrame → State → State) (port : Port) (bytes : List Byte)
    (s : State) :
    (∃ f, transmissionEnds request port bytes s = request f s) ∨
    transmissionEnds request port bytes s = transmissionEnds other port bytes s := by
  unfold transmissionEnds
  split_ifs
  · exact .inr rfl
  cases checkFrame bytes with
  | error code => exact .inr rfl
  | ok f =>
    dsimp only
    unfold placeFrame
    split_ifs
    · exact .inr rfl
    · cases port
      · exact .inr rfl
      · exact .inl ⟨f, rfl⟩
    · exact .inr rfl
    · exact .inr rfl
    · exact .inr rfl

theorem takeEvent_frameArrival (port : Port) (bytes : List Byte) (s : State) :
    takeEvent (.frameArrival port bytes) s = transmissionEnds (fun f => overrunRequest f.source) port bytes s := rfl

/-- What a command makes of the state: the taking of a request, an event of the part, or a row of the table store, the
starts and the ends. -/
inductive Executed (s : State) : Instr → State → Prop
  | request {i : Instr} {source : Byte} {body : List Byte} {t : State} (taken : TakenIn source body s t) : Executed s i t
  | event (i : Instr) (e : PartEvent) (other : e ≠ .portBTransmitCompletion) : Executed s i (takeEvent e s)
  | portB : Executed s .portBTransmitCompletion (portBCompletes responseSent s)
  | write : Executed s .storeWriteCompletion (writeCompletes s)
  | restore : Executed s .restoreCompletion (restoreCompletes s)
  | spell (spell : ResetSpell) : Executed s (.resetAsserted spell) (resetSpell spell s)
  | powerLoss : Executed s .powerLoss (discardWorking .powerAbsent (tearWrite s))
  | coldStart (straps : BitVec 6) : Executed s (.coldStart straps) (coldStart straps s)

theorem exec_executed {i : Instr} {s t : State} (h : exec i s = .next t) : Executed s i t := by
  cases carried : requestOf i with
  | some rq =>
    obtain ⟨serve, served, executes⟩ := exec_request carried s
    obtain rfl : intake _ _ _ _ = t := Host.Outcome.next.inj (executes.symm.trans h)
    exact .request (intake_takenIn served _ _ _)
  | none =>
    cases i <;> cases carried
    case frameArrival.refl port bytes lock =>
      cases h
      obtain ⟨f, taken⟩ | event := transmissionEnds_cases (takeRequestFrame lock)
        (fun f => overrunRequest f.source) port bytes s
      · rw [taken]
        exact .request (intake_takenIn (fun rq s => serveByCode_served rq s lock) _ _ _)
      · rw [event, ← takeEvent_frameArrival]
        exact .event _ _ nofun
    case portATransmitCompletion.refl => cases h; exact .event _ .portATransmitCompletion nofun
    case portBTransmitCompletion.refl => cases h; exact .portB
    case staleTimerExpiry.refl c => cases h; exact .event _ (.staleTimerExpiry c) nofun
    case lostTimerExpiry.refl c => cases h; exact .event _ (.lostTimerExpiry c) nofun
    case holdTimerExpiry.refl => cases h; exact .event _ .holdTimerExpiry nofun
    case statusTimerExpiry.refl => cases h; exact .event _ .statusTimerExpiry nofun
    case storeWriteCompletion.refl => cases h; exact .write
    case restoreCompletion.refl => cases h; exact .restore
    case resetAsserted.refl spell => cases h; exact .spell spell
    case powerLoss.refl => cases h; exact .powerLoss
    case coldStart.refl straps =>
      obtain rfl : coldStart straps s = t := Host.Outcome.next.inj h
      exact .coldStart straps
    case uptimeSecondCount.refl => cases h; exact .event _ .uptimeSecondCount nofun

/-! ### Properties of the blocks' own state -/

/-- Two states agree in the tables, the records of channels, transformers and station, the member map, the phase, the
store and its write: in all but the queue, the recorder, the banks, the ports, the clock and the lines. -/
def State.SameBlocks (s t : State) : Prop :=
  t.phase = s.phase ∧ t.setup = s.setup ∧ t.channelEntries = s.channelEntries ∧ t.xfEntries = s.xfEntries ∧
  t.channels = s.channels ∧ t.xfs = s.xfs ∧ t.memberMap = s.memberMap ∧ t.station = s.station ∧ t.write = s.write ∧
  t.store = s.store

/-- A property of what `SameBlocks` compares that the work of conditioning, the storm monitor and the acknowledgement
keeps. -/
structure KeptByEvents (P : State → Prop) : Prop where
  beside : ∀ {s t : State}, s.SameBlocks t → P s → P t
  examineBlock : ∀ {s} body, P s → P (examineBlock body s)
  staleExpires : ∀ {s} c, P s → P (staleExpires c s)
  lostExpires : ∀ {s} c, P s → P (lostExpires c s)
  holdExpires : ∀ {s}, P s → P (holdExpires s)
  runTimers : ∀ {s} n, P s → P (runTimers n s)
  acknowledgeFlag : ∀ {s} t, P s → P (acknowledgeFlag t s)

namespace State.SameBlocks

theorem refl (s : State) : s.SameBlocks s := ⟨rfl, rfl, rfl, rfl, rfl, rfl, rfl, rfl, rfl, rfl⟩

theorem report (b : BankId) (code : ErrorCode) (x : Byte) (s : State) : s.SameBlocks (report b code x s) := by
  rw [report_eq]
  exact refl s

theorem replaceBank (b : BankId) (r : BankRec) (s : State) : s.SameBlocks (replaceBank b r s) := by
  unfold Machine.replaceBank
  split <;> exact refl s

theorem buildStatus (s : State) : s.SameBlocks (buildStatus s) := by
  unfold Machine.buildStatus
  split
  · exact report _ _ _ (s.setFrames (s.frames.putStatus s.statusFrame))
  · exact refl s

theorem forwardFrame (port : Port) (source : Byte) (bytes : List Byte) (s : State) :
    s.SameBlocks (forwardFrame port source bytes s) := by
  unfold Machine.forwardFrame
  split
  · split
    · exact refl s
    · exact report _ _ _ s
  · split
    · exact refl s
    · exact report _ _ _ s

end State.SameBlocks

namespace KeptByEvents

variable {P : State → Prop} (h : KeptByEvents P) {s : State}
include h

theorem report (b : BankId) (code : ErrorCode) (x : Byte) (hs : P s) : P (report b code x s) :=
  h.beside (.report b code x s) hs

theorem transmissionEnds (request : GoodFrame → State → State) (hr : ∀ f, P s → P (request f s)) (port : Port)
    (bytes : List Byte) (hs : P s) : P (transmissionEnds request port bytes s) := by
  unfold Machine.transmissionEnds
  split
  · exact hs
  split
  · exact h.report _ _ _ hs
  next f _ =>
    unfold placeFrame
    split_ifs
    · exact h.examineBlock _ hs
    · cases port
      · exact h.report _ _ _ hs
      · exact hr f hs
    · exact hs
    · exact h.beside (.forwardFrame ..) (h.examineBlock _ hs)
    · exact h.beside (.forwardFrame ..) hs

theorem portBCompletes (sent : State → State) (hsent : ∀ f, P (s.setFrames f) → P (sent (s.setFrames f))) (hs : P s) :
    P (portBCompletes sent s) := by
  unfold Machine.portBCompletes
  split
  · exact hs
  · exact hsent _ (h.beside (.refl s) hs)
  · exact h.beside (.refl s) hs
  · exact h.beside (.refl s) hs

theorem statusExpires (hs : P s) : P (statusExpires s) := by
  unfold Machine.statusExpires
  split
  · exact h.beside (.buildStatus _) (h.beside (s := s) (.refl s) hs)
  · exact hs

theorem countUptimeSecond (hs : P s) : P (countUptimeSecond s) := by
  unfold Machine.countUptimeSecond
  split
  · exact h.beside (.refl (Machine.runTimers _ s)) (h.runTimers _ hs)
  · exact hs

theorem takeEvent (e : PartEvent) (hs : P s) : P (takeEvent e s) := by
  cases e
  case frameArrival => exact h.transmissionEnds _ (fun _ => h.report _ _ _) _ _ hs
  case portATransmitCompletion =>
    show P (portACompletes s)
    unfold portACompletes
    split
    · exact h.beside (.refl s) hs
    · exact hs
  case portBTransmitCompletion => exact h.portBCompletes _ (fun f => h.beside (.refl (s.setFrames f))) hs
  case staleTimerExpiry c => exact h.staleExpires c hs
  case lostTimerExpiry c => exact h.lostExpires c hs
  case holdTimerExpiry => exact h.holdExpires hs
  case statusTimerExpiry => exact h.statusExpires hs
  case uptimeSecondCount => exact h.countUptimeSecond hs

theorem takeBetween (events : List Interposed) (n : Nat) (hs : P s) : P (takeBetween events n s) :=
  KeptByCommands.foldl _ (fun _ e => h.takeEvent e.event) _ hs

theorem clearOne (b : BankId) (hs : P s) : P (clearOne s b) := by
  unfold Machine.clearOne
  split
  · exact h.beside (.replaceBank b BankRec.empty s) hs
  · exact hs

theorem acknowledgeAll (hs : P s) : P (acknowledgeAll s).1 := by
  unfold Machine.acknowledgeAll
  generalize s.inside = events
  suffices ∀ (ts : List Xf) (u : State) (n : Nat), P u → P (ts.foldl (acknowledgeTurn events) (u, n)).1 from
    this _ _ _ (h.beside (.refl s) hs)
  intro ts
  induction ts with
  | nil => exact fun _ _ hu => hu
  | cons t ts ih => exact fun _ _ hu => ih _ _ (h.acknowledgeFlag t (h.takeBetween events t.val hu))

theorem clearAll (hs : P s) : P (clearAll s).1 := by
  unfold Machine.clearAll
  generalize s.inside = events
  suffices ∀ (bs : List BankId) (u : State) (n : Nat), P u → P (bs.foldl (clearTurn events) (u, n)).1 from
    this _ _ _ (h.beside (.refl s) hs)
  intro bs
  induction bs with
  | nil => exact fun _ _ hu => hu
  | cons b bs ih => exact fun _ _ hu => ih _ _ (h.clearOne b (h.takeBetween events b.index.val hu))

theorem requestWork {u : State} (work : RequestWork s u) (hs : P s) : P u := by
  cases work
  case nothing => exact hs
  case takeEvents => exact h.beside (.refl s) hs
  case setFloor => exact h.beside (.refl s) hs
  case afterRead => exact h.beside (.refl s) hs
  case acknowledgeOne t => exact h.acknowledgeFlag t hs
  case acknowledgeEach => exact h.acknowledgeAll hs
  case clearOne b => exact h.clearOne b hs
  case clearEach => exact h.clearAll hs
  case buildStatus => exact h.beside (.buildStatus s) hs
  case armRestart => exact h.beside (.refl s) hs

theorem takenIn (begun : ∀ w, s.phase = .running → w.Supposes s → P s → P (s.setWrite (some w))) {source : Byte}
    {body : List Byte} {t : State} (taken : TakenIn source body s t) (hs : P s) : P t := by
  cases taken
  case closed => exact hs
  case overrun => exact h.report _ _ _ hs
  case notReady => exact h.beside (.refl s) hs
  case served serving does =>
    have held : P (holdRequest ⟨source, body⟩ s) := h.beside (.refl s) hs
    cases does
    case answered u work r d data => exact h.beside (.refl u) (h.requestWork work held)
    case begun w supposed => exact h.beside (.refl (s.setWrite (some w))) (begun w serving.1 (by cases w <;> exact supposed) hs)

end KeptByEvents

/-! ### The settled state (R165, R177, R181) -/

/-- What waits outside the part is kept by every command, but for the events that a request for all takes. -/
theorem outside_kept (s : State) :
    KeptByCommands (fun u => u.pending = s.pending ∧ (u.inside = s.inside ∨ u.inside = [])) where
  setChannel _ _ _ := id
  setXf _ _ _ _ := id
  alarm _ _ _ := id
  setStation _ _ _ := id
  enter _ _ := id
  write _ _ := id
  takeChange _ _ _ _ _ := id
  report u b c x _ same := by rw [report_eq]; exact same
  setFrames _ _ := id
  setWrite _ _ := id
  armRestart _ := id
  takeEvents _ _ := id
  setFloor _ _ _ := id
  afterRead _ _ := id
  emptyBank u b same := by unfold replaceBank; split <;> exact same
  setSetup _ _ := id
  setChannelEntry _ _ _ := id
  setXfEntry _ _ _ := id
  setMemberMap _ _ := id
  setStore _ _ := id
  countSpell _ := id
  discard _ _ := id
  warm _ := id
  run _ := id
  timers _ _ := id
  setClock _ _ := id
  beginWalk _ same := ⟨same.1, .inr rfl⟩

/-- No update but the sampling of the straps touches the station address. -/
theorem stationAddress_kept (a : Byte) : KeptByCommands (fun u => u.stationAddress = a) where
  setChannel _ _ _ := id
  setXf _ _ _ _ := id
  alarm _ _ _ := id
  setStation _ _ _ := id
  enter _ _ := id
  write _ _ := id
  takeChange _ _ _ _ _ := id
  report u b c x _ same := by rw [report_eq]; exact same
  setFrames _ _ := id
  setWrite _ _ := id
  armRestart _ := id
  takeEvents _ _ := id
  setFloor _ _ _ := id
  afterRead _ _ := id
  emptyBank u b same := by unfold replaceBank; split <;> exact same
  setSetup _ _ := id
  setChannelEntry _ _ _ := id
  setXfEntry _ _ _ := id
  setMemberMap _ _ := id
  setStore _ _ := id
  countSpell _ := id
  discard _ _ := id
  warm _ := id
  run _ := id
  timers _ _ := id
  setClock _ _ := id
  beginWalk _ := id

/-- The store and the live tables are those of `s`. -/
def State.SameTables (s u : State) : Prop :=
  u.store = s.store ∧ u.setup = s.setup ∧ u.channelEntries = s.channelEntries ∧ u.xfEntries = s.xfEntries

theorem sameTables_keptByBlocks (s : State) : KeptByBlocks s.SameTables where
  setChannel _ _ _ := id
  setXf _ _ _ _ := id
  alarm _ _ _ := id
  setStation _ _ _ := id
  enter _ _ := id
  write _ _ := id
  takeChange _ _ _ _ _ := id
  report u b c x _ same := by rw [report_eq]; exact same

theorem sameTables_keptByEvents (s : State) : KeptByEvents s.SameTables where
  beside := fun ⟨_, setup, channels, xfs, _, _, _, _, _, store⟩ ⟨a, b, c, d⟩ =>
    ⟨store.trans a, setup.trans b, channels.trans c, xfs.trans d⟩
  examineBlock := (sameTables_keptByBlocks s).examineBlock
  staleExpires := (sameTables_keptByBlocks s).staleExpires
  lostExpires := (sameTables_keptByBlocks s).lostExpires
  holdExpires := (sameTables_keptByBlocks s).holdExpires
  runTimers _ := id
  acknowledgeFlag := (sameTables_keptByBlocks s).acknowledgeFlag

theorem State.SameTables.refl (s : State) : s.SameTables s := ⟨rfl, rfl, rfl, rfl⟩

/-- A property that the blocks and the member map's rebuilding keep is kept by a restore completion that begins with it
(R180). -/
theorem KeptByBlocks.restoreCompletes {P : State → Prop} (blocks : KeptByBlocks P)
    (memberMap : ∀ u m, P u → P { u with memberMap := m }) {s : State} (hs : P s)
    (run : P { s with phase := .running, clock := Clock.initial }) : P (restoreCompletes s) := by
  unfold Machine.restoreCompletes
  split
  · dsimp only
    generalize ({ s with phase := .running, clock := Clock.initial } : State) = r at run ⊢
    have channels : P ((List.finRange 40).foldl Machine.takeUpChannel r) :=
      KeptByCommands.foldl _ (fun _ c => blocks.takeUpChannel c) _ run
    generalize (List.finRange 40).foldl Machine.takeUpChannel r = u at channels ⊢
    have mapped : P (rebuildMemberMap u) := memberMap u _ channels
    have xfs := KeptByCommands.foldl (fun s t => Machine.takeUpXf t s) (fun _ t => blocks.takeUpXf t) (List.finRange 16) mapped
    exact blocks.stationTakeUp xfs
  · exact hs

theorem restoreCompletes_sameTables (s : State) : s.SameTables (restoreCompletes s) :=
  (sameTables_keptByBlocks s).restoreCompletes (fun _ _ => id) (.refl s) (.refl s)

/-- `t` differs from `s` in the live tables, the banks and the event queue alone. -/
def State.RestoresTo (s t : State) : Prop :=
  t = { s with setup := t.setup, channelEntries := t.channelEntries, xfEntries := t.xfEntries, banks := t.banks
               queue := t.queue }

theorem State.RestoresTo.trans {s t u : State} (first : s.RestoresTo t) (second : t.RestoresTo u) : s.RestoresTo u := by
  unfold RestoresTo at *
  rw [first] at second
  exact second

theorem State.RestoresTo.store {s t : State} (h : s.RestoresTo t) : t.store = s.store := by
  unfold RestoresTo at h
  rw [h]

theorem State.RestoresTo.report {s t : State} (b : BankId) (code : ErrorCode) (x : Byte) (h : s.RestoresTo t) :
    s.RestoresTo (report b code x t) := by
  refine h.trans ?_
  unfold RestoresTo
  conv_lhs => rw [report_eq]
  rw [report_eq]

/-- A restore replaces the live tables, and its reports reach the banks and the event queue (R179). -/
theorem restoreTables_restoresTo (s : State) : s.RestoresTo (restoreTables s) := by
  have setup : ∀ u : State, u.RestoresTo (restoreSetup u) := fun u => by
    unfold restoreSetup
    split
    · exact rfl
    · exact .report _ _ _ rfl
  have xf : ∀ (u : State) (t : Xf), u.RestoresTo (restoreXf u t) := fun u t => by
    unfold restoreXf
    split
    · exact rfl
    · exact .report _ _ _ rfl
  have channel : ∀ (u : State) (c : Channel), u.RestoresTo (restoreChannel u c) := fun u c => by
    unfold restoreChannel
    split
    · exact rfl
    · exact .report _ _ _ rfl
  have xfs : s.RestoresTo ((List.finRange 16).foldl restoreXf (restoreSetup s)) :=
    KeptByCommands.foldl _ (fun u t hu => hu.trans (xf u t)) _ (setup s)
  unfold restoreTables
  exact KeptByCommands.foldl _ (fun u c hu => hu.trans (channel u c)) _ xfs

theorem responseSent_store (s : State) : (responseSent s).store = s.store := by
  unfold responseSent
  split
  · exact (restoreTables_restoresTo (warmValues s)).store
  · rfl

theorem portBCompletes_responseSent_store (s : State) : (portBCompletes responseSent s).store = s.store := by
  unfold portBCompletes
  split
  · rfl
  · exact responseSent_store _
  · rfl
  · rfl

/-- Settles O16: the queue of commands and the station address are kept update by update; the tables and the store by
every command but those of the table store, the starts and the ends, row by row. -/
theorem settledStateChangesAtItsEventsOnly : Obligations.SettledStateChangesAtItsEventsOnly := by
  intro c s t ht
  have outside := (outside_kept s).exec (fun _ _ _ _ => id) ⟨rfl, .inl rfl⟩ ht
  have events := sameTables_keptByEvents s
  have begun : ∀ w, s.phase = .running → w.Supposes s → s.SameTables s → s.SameTables (s.setWrite (some w)) :=
    fun _ _ _ => id
  refine ⟨outside.1, outside.2, fun notCold => ?_, fun notWrite notLoss notCold notReset => ?_,
    fun notWrite notPortB notLoss notCold notReset => ?_⟩
  · exact (stationAddress_kept s.stationAddress).exec (fun straps cold => absurd cold (notCold straps)) rfl ht
  · obtain taken | ⟨_, e, _⟩ | _ | _ | _ | spell | _ | straps := exec_executed ht
    · exact (events.takenIn begun taken (.refl s)).1
    · exact (events.takeEvent e (.refl s)).1
    · exact portBCompletes_responseSent_store s
    · exact absurd rfl notWrite
    · exact (restoreCompletes_sameTables s).1
    · exact absurd rfl (notReset spell)
    · exact absurd rfl notLoss
    · exact absurd rfl (notCold straps)
  · obtain taken | ⟨_, e, _⟩ | _ | _ | _ | spell | _ | straps := exec_executed ht
    · exact (events.takenIn begun taken (.refl s)).2
    · exact (events.takeEvent e (.refl s)).2
    · exact absurd rfl notPortB
    · exact absurd rfl notWrite
    · exact (restoreCompletes_sameTables s).2
    · exact absurd rfl (notReset spell)
    · exact absurd rfl notLoss
    · exact absurd rfl (notCold straps)

end Sys2Proof.Machine

/-! PROOF. The slots stay sound (R156 to R164, R177, R181). The law of the frame handler is its law at port A, its law at
port B and that a free transmitter at port B leaves nothing waiting, which the arbiter restores at every decision. What
happens beside the ports leaves the slots, the store write and the armed restart as they are. -/

namespace Sys2Proof.Machine

/-! ### The frame handler -/

/-- The law of port A: its queue keeps its capacity, and a free transmitter leaves nothing in it (R156, R157). -/
def FrameHandler.PortALaw (f : FrameHandler) : Prop := f.bToA.length ≤ 4 ∧ (f.txA = none → f.bToA = [])

/-- The law of port B before its decision: the queue and the run keep their ranges, and the response slot is SENDING just
while the response is sent (R156, R164). -/
def FrameHandler.PortBLaw (f : FrameHandler) : Prop :=
  f.aToB.length ≤ 8 ∧ f.forwardRun ≤ 8 ∧ (f.response = .sending ↔ f.sendsResponse = true)

namespace FrameHandler

variable {f g : FrameHandler}

theorem law_iff :
    f.Law ↔ f.PortALaw ∧ f.PortBLaw ∧ (f.txB = none → f.aToB = [] ∧ f.ownWaiting = false) :=
  ⟨fun ⟨a, b, c, d, e, r⟩ => ⟨⟨b, d⟩, ⟨a, c, r⟩, e⟩, fun ⟨⟨b, d⟩, ⟨a, c, r⟩, e⟩ => ⟨a, b, c, d, e, r⟩⟩

theorem Law.portA (law : f.Law) : f.PortALaw := (law_iff.1 law).1
theorem Law.portB (law : f.Law) : f.PortBLaw := (law_iff.1 law).2.1

theorem sendsResponse_iff : f.sendsResponse = true ↔ ∃ frame, f.txB = some (.response, frame) := by
  unfold sendsResponse
  split <;> simp_all

/-- A decision at a free port B sends the response that is READY, else the status frame, where an own frame has its
turn; else the oldest forwarded frame. -/
theorem arbitrate_cases (f : FrameHandler) :
    (f.txB.isSome = true ∧ f.arbitrate = f) ∨
    (∃ frame, f.txB = none ∧ f.response = .ready frame ∧
      f.arbitrate = { f with response := .sending, txB := some (.response, frame), forwardRun := 0 }) ∨
    (∃ frame, f.txB = none ∧ (∀ r, f.response ≠ .ready r) ∧ f.status = some frame ∧
      f.arbitrate = { f with status := none, txB := some (.status, frame), forwardRun := 0 }) ∨
    (∃ frame rest, f.txB = none ∧ f.ownTurn = false ∧ f.aToB = frame :: rest ∧
      f.arbitrate = { f with aToB := rest, txB := some (.forward, frame)
                             forwardRun := if f.ownWaiting then f.forwardRun + 1 else f.forwardRun }) ∨
    (f.txB = none ∧ f.aToB = [] ∧ f.ownWaiting = false ∧ f.arbitrate = f) := by
  cases sending : f.txB with
  | some _ => exact .inl ⟨rfl, f.arbitrate_busy (by simp [sending])⟩
  | none =>
    cases turn : f.ownTurn with
    | true =>
      have waits : f.ownWaiting = true := by
        unfold ownTurn at turn
        exact (Bool.and_eq_true_iff.1 turn).1
      have decided : f.arbitrate = f.startOwn := by simp [arbitrate, sending, turn]
      by_cases ready : ∃ frame, f.response = .ready frame
      · obtain ⟨frame, ready⟩ := ready
        exact .inr (.inl ⟨frame, rfl, ready, decided.trans (by simp [startOwn, ready])⟩)
      · obtain ⟨frame, waiting⟩ := Option.ne_none_iff_exists'.1 ((f.ownWaiting_iff.1 waits).resolve_left ready)
        have notReady := not_exists.1 ready
        refine .inr (.inr (.inl ⟨frame, rfl, notReady, waiting, decided.trans ?_⟩))
        unfold startOwn
        rw [waiting]
        cases slot : f.response with
        | ready r => exact absurd slot (notReady r)
        | _ => rfl
    | false =>
      have decided : f.arbitrate = f.startForward := by simp [arbitrate, sending, turn]
      cases queued : f.aToB with
      | cons frame rest =>
        exact .inr (.inr (.inr (.inl ⟨frame, rest, rfl, rfl, rfl, decided.trans (by simp [startForward, queued])⟩)))
      | nil =>
        have idle : f.ownWaiting = false := by simpa [ownTurn, queued] using turn
        exact .inr (.inr (.inr (.inr ⟨rfl, rfl, idle, decided.trans (by simp [startForward, queued])⟩)))

/-- A decision leaves port A alone. -/
theorem arbitrate_portA (f : FrameHandler) : f.arbitrate.txA = f.txA ∧ f.arbitrate.bToA = f.bToA := by
  obtain ⟨-, h⟩ | ⟨_, -, -, h⟩ | ⟨_, -, -, -, h⟩ | ⟨_, _, -, -, -, h⟩ | ⟨-, -, -, h⟩ := f.arbitrate_cases <;>
    rw [h] <;> exact ⟨rfl, rfl⟩

/-- After a decision the response slot is as it was, or READY has become SENDING. -/
theorem arbitrate_response (f : FrameHandler) :
    f.arbitrate.response = f.response ∨ (∃ frame, f.response = .ready frame) ∧ f.arbitrate.response = .sending := by
  obtain ⟨-, h⟩ | ⟨frame, -, ready, h⟩ | ⟨_, -, -, -, h⟩ | ⟨_, _, -, -, -, h⟩ | ⟨-, -, -, h⟩ := f.arbitrate_cases
  · exact .inl (by rw [h])
  · exact .inr ⟨⟨frame, ready⟩, by rw [h]⟩
  · exact .inl (by rw [h])
  · exact .inl (by rw [h])
  · exact .inl (by rw [h])

/-- A decision makes the law whole. -/
theorem arbitrate_law (portA : f.PortALaw) (portB : f.PortBLaw) : f.arbitrate.Law := by
  obtain ⟨queueLe, runLe, sending⟩ := portB
  refine law_iff.2 ⟨?_, ?_⟩
  · unfold PortALaw
    rw [f.arbitrate_portA.1, f.arbitrate_portA.2]
    exact portA
  · obtain ⟨busy, h⟩ | ⟨frame, -, -, h⟩ | ⟨frame, idle, -, -, h⟩ | ⟨frame, rest, idle, turn, queued, h⟩ |
      ⟨idle, empty, noOwn, h⟩ := f.arbitrate_cases
    · rw [h]
      exact ⟨⟨queueLe, runLe, sending⟩, fun none => by simp [none] at busy⟩
    · rw [h]
      exact ⟨⟨queueLe, Nat.zero_le _, by simp [sendsResponse]⟩, nofun⟩
    · have notSending : f.response ≠ .sending := by simp [sending, sendsResponse, idle]
      rw [h]
      exact ⟨⟨queueLe, Nat.zero_le _, by simpa [sendsResponse] using notSending⟩, nofun⟩
    · have notSending : f.response ≠ .sending := by simp [sending, sendsResponse, idle]
      rw [queued] at queueLe
      have room : f.ownWaiting = true → f.forwardRun < 8 := by
        intro waits
        simp only [ownTurn, waits, queued, Config.maxForwardRun, List.isEmpty_cons, Bool.true_and, Bool.false_or] at turn
        exact not_le.1 (of_decide_eq_false turn)
      rw [h]
      refine ⟨⟨?_, ?_, by simpa [sendsResponse] using notSending⟩, nofun⟩
      · exact (Nat.le_succ _).trans queueLe
      · show (if f.ownWaiting then f.forwardRun + 1 else f.forwardRun) ≤ 8
        split_ifs with waits
        · exact room waits
        · exact runLe
    · rw [h]
      exact ⟨⟨queueLe, runLe, sending⟩, fun _ => ⟨empty, noOwn⟩⟩

/-- Port A starts a frame where it can, and port B is left alone. -/
theorem startPortA_law (bound : f.bToA.length ≤ 4) (portB : f.PortBLaw)
    (settled : f.txB = none → f.aToB = [] ∧ f.ownWaiting = false) :
    f.startPortA.Law ∧ f.startPortA.response = f.response := by
  unfold startPortA
  split
  · next frame rest free queued =>
    rw [queued] at bound
    exact ⟨law_iff.2 ⟨⟨(Nat.le_succ _).trans bound, nofun⟩, portB, settled⟩, rfl⟩
  · next other =>
    refine ⟨law_iff.2 ⟨⟨bound, fun free => ?_⟩, portB, settled⟩, rfl⟩
    cases queued : f.bToA with
    | nil => rfl
    | cons frame rest => exact absurd queued (other frame rest free)

/-- The handler that `f` leads to keeps the law, with the response slot as it was or its READY response on the line. -/
def LeadsTo (f g : FrameHandler) : Prop :=
  g.Law ∧ (g.response = f.response ∨ (∃ frame, f.response = .ready frame) ∧ g.response = .sending)

theorem leadsTo_arbitrate (portA : f.PortALaw) (portB : f.PortBLaw) (same : f.response = g.response) :
    g.LeadsTo f.arbitrate := by
  refine ⟨arbitrate_law portA portB, ?_⟩
  rw [← same]
  exact f.arbitrate_response

theorem noteOwn_eq (f : FrameHandler) :
    f.noteOwn = { f with forwardRun := if f.ownWaiting then f.forwardRun else 0 } := by
  unfold noteOwn
  split <;> rfl

theorem portBLaw_noteOwn (portB : f.PortBLaw) : f.noteOwn.PortBLaw := by
  obtain ⟨queueLe, runLe, sending⟩ := portB
  rw [noteOwn_eq]
  refine ⟨queueLe, ?_, sending⟩
  show (if f.ownWaiting then f.forwardRun else 0) ≤ 8
  split_ifs
  · exact runLe
  · exact Nat.zero_le _

theorem putStatus_laws (frame : List Byte) (portA : f.PortALaw) (portB : f.PortBLaw) :
    (f.putStatus frame).PortALaw ∧ (f.putStatus frame).PortBLaw ∧ (f.putStatus frame).response = f.response := by
  have noted := portBLaw_noteOwn portB
  unfold putStatus
  rw [noteOwn_eq] at noted ⊢
  exact ⟨portA, noted, rfl⟩

/-- A slot other than SENDING stands for a port B that sends no response. -/
theorem PortBLaw.withResponse (portB : f.PortBLaw) {r : ResponseSlot} (old : f.response ≠ .sending) (new : r ≠ .sending) :
    ({ f with response := r } : FrameHandler).PortBLaw := by
  obtain ⟨queueLe, runLe, sending⟩ := portB
  exact ⟨queueLe, runLe, iff_of_false new (mt sending.2 old)⟩

theorem putResponse_laws (frame : List Byte) (portA : f.PortALaw) (portB : f.PortBLaw) (old : f.response ≠ .sending) :
    (f.putResponse frame).PortALaw ∧ (f.putResponse frame).PortBLaw := by
  have noted := portBLaw_noteOwn portB
  unfold putResponse
  rw [noteOwn_eq] at noted ⊢
  exact ⟨portA, noted.withResponse old nofun⟩

/-- A transmitter at port B that becomes free, with the slot not SENDING. -/
theorem PortBLaw.freed (portB : f.PortBLaw) {r : ResponseSlot} (new : r ≠ .sending) :
    ({ f with txB := none, response := r } : FrameHandler).PortBLaw := by
  obtain ⟨queueLe, runLe, -⟩ := portB
  exact ⟨queueLe, runLe, iff_of_false new nofun⟩

end FrameHandler

/-! ### What leaves the slots alone -/

/-- The frame handler, the store write and the armed restart are those of `s`. -/
def State.SameSlots (s u : State) : Prop :=
  u.frames = s.frames ∧ u.write = s.write ∧ u.restartArmed = s.restartArmed

theorem State.SameSlots.refl (s : State) : s.SameSlots s := ⟨rfl, rfl, rfl⟩

theorem sameSlots_keptByBlocks (s : State) : KeptByBlocks s.SameSlots where
  setChannel _ _ _ := id
  setXf _ _ _ _ := id
  alarm _ _ _ := id
  setStation _ _ _ := id
  enter _ _ := id
  write _ _ := id
  takeChange _ _ _ _ _ := id
  report u b c x _ same := by rw [report_eq]; exact same

theorem report_sameSlots (b : BankId) (code : ErrorCode) (x : Byte) (s : State) : s.SameSlots (report b code x s) := by
  rw [report_eq]
  exact .refl s

theorem clearOne_sameSlots (b : BankId) (s : State) : s.SameSlots (clearOne s b) := by
  unfold clearOne replaceBank
  split
  · split <;> exact .refl s
  · exact .refl s

/-! ### The events -/

/-- What an event does to the slots of `s`: the frame handler leads on, the store write and the armed restart stay. -/
def State.SlotsLeadTo (s u : State) : Prop :=
  s.frames.LeadsTo u.frames ∧ u.write = s.write ∧ u.restartArmed = s.restartArmed

theorem State.SlotsLeadTo.ofSame {s u : State} (law : s.frames.Law) (same : s.SameSlots u) : s.SlotsLeadTo u :=
  ⟨⟨same.1.symm ▸ law, .inl (congrArg _ same.1)⟩, same.2⟩

theorem State.SlotsLeadTo.trans {s t u : State} (first : s.SlotsLeadTo t) (second : t.SlotsLeadTo u) :
    s.SlotsLeadTo u := by
  obtain ⟨⟨-, slot⟩, write, armed⟩ := first
  obtain ⟨⟨law, slot'⟩, write', armed'⟩ := second
  refine ⟨⟨law, ?_⟩, write'.trans write, armed'.trans armed⟩
  obtain same | ⟨ready, sending⟩ := slot
  · rwa [← same]
  · obtain same' | ⟨⟨frame, ready'⟩, -⟩ := slot'
    · exact .inr ⟨ready, same'.trans sending⟩
    · cases sending.symm.trans ready'

theorem State.SlotsLeadTo.arbiter {s u : State} {f : FrameHandler} (same : s.SameSlots u) (portA : f.PortALaw)
    (portB : f.PortBLaw) (slot : f.response = s.frames.response) : s.SlotsLeadTo (arbiter (u.setFrames f)) :=
  ⟨FrameHandler.leadsTo_arbitrate portA portB slot, same.2⟩

section Events
variable {s : State} (law : s.frames.Law)
include law

theorem forwardFrame_slots (port : Port) (source : Byte) (bytes : List Byte) :
    s.SlotsLeadTo (forwardFrame port source bytes s) := by
  obtain ⟨portA, ⟨queueLe, runLe, sending⟩, settled⟩ := FrameHandler.law_iff.1 law
  unfold forwardFrame
  split
  · split_ifs with room
    · refine .arbiter (.refl s) portA ⟨?_, runLe, sending⟩ rfl
      rw [List.length_append]
      exact Nat.succ_le_of_lt room
    · exact .ofSame law (report_sameSlots _ _ _ s)
  · split_ifs with room
    · have bound : (s.frames.bToA ++ [bytes]).length ≤ 4 := by
        rw [List.length_append]
        exact Nat.succ_le_of_lt room
      have started := FrameHandler.startPortA_law (f := { s.frames with bToA := s.frames.bToA ++ [bytes] }) bound
        ⟨queueLe, runLe, sending⟩ settled
      exact ⟨⟨started.1, .inl started.2⟩, rfl, rfl⟩
    · exact .ofSame law (report_sameSlots _ _ _ s)

theorem statusExpires_slots : s.SlotsLeadTo (statusExpires s) := by
  unfold statusExpires
  split
  · have laws := FrameHandler.putStatus_laws (State.statusFrame { s with clock := { s.clock with statusDue := false } })
      law.portA law.portB
    unfold buildStatus
    split
    · rw [report_setFrames]
      exact .arbiter (report_sameSlots _ _ _ { s with clock := { s.clock with statusDue := false } }) laws.1 laws.2.1
        laws.2.2
    · exact .arbiter (.refl s) laws.1 laws.2.1 laws.2.2
  · exact .ofSame law (.refl s)

theorem portACompletes_slots : s.SlotsLeadTo (portACompletes s) := by
  obtain ⟨⟨bound, -⟩, portB, settled⟩ := FrameHandler.law_iff.1 law
  unfold portACompletes
  split
  · have started := FrameHandler.startPortA_law (f := { s.frames with txA := none }) bound portB settled
    exact ⟨⟨started.1, .inl started.2⟩, rfl, rfl⟩
  · exact .ofSame law (.refl s)

/-- Port B's completion of a frame other than the response. -/
theorem portBCompletes_slots (sent : State → State) (other : s.frames.response ≠ .sending) :
    s.SlotsLeadTo (portBCompletes sent s) := by
  have freed := law.portB.freed other
  unfold portBCompletes
  split
  · exact .ofSame law (.refl s)
  · next frame sends =>
    exact absurd (law.portB.2.2.2 (FrameHandler.sendsResponse_iff.2 ⟨frame, sends⟩)) other
  · exact .arbiter (.refl s) law.portA freed rfl
  · exact .arbiter (.refl s) law.portA freed rfl

theorem takeEvent_slots (e : PartEvent) (other : e = .portBTransmitCompletion → s.frames.response ≠ .sending) :
    s.SlotsLeadTo (takeEvent e s) := by
  have blocks := sameSlots_keptByBlocks s
  have same : ∀ {u}, s.SameSlots u → s.SlotsLeadTo u := .ofSame law
  cases e
  case frameArrival port bytes =>
    rw [takeEvent_frameArrival]
    unfold transmissionEnds
    split
    · exact same (.refl s)
    split
    · exact same (report_sameSlots _ _ _ s)
    next f _ =>
      have examined := blocks.examineBlock f.body (.refl s)
      unfold placeFrame
      split_ifs
      · exact same examined
      · cases port <;> exact same (report_sameSlots _ _ _ s)
      · exact same (.refl s)
      · exact (same examined).trans (forwardFrame_slots (examined.1.symm ▸ law) _ _ _)
      · exact forwardFrame_slots law _ _ _
  case portATransmitCompletion => exact portACompletes_slots law
  case portBTransmitCompletion => exact portBCompletes_slots law _ (other rfl)
  case staleTimerExpiry c => exact same (blocks.staleExpires c (.refl s))
  case lostTimerExpiry c => exact same (blocks.lostExpires c (.refl s))
  case holdTimerExpiry => exact same (blocks.holdExpires (.refl s))
  case statusTimerExpiry => exact statusExpires_slots law
  case uptimeSecondCount =>
    refine same ?_
    show s.SameSlots (countUptimeSecond s)
    unfold countUptimeSecond
    split <;> exact .refl s

end Events

/-! ### The work of a request -/

/-- While a request holds the slot: the law of the frame handler, the slot PENDING and no store write in progress. -/
def State.Holding (s : State) : Prop :=
  s.frames.Law ∧ s.frames.response.isPending = true ∧ s.write = none

theorem ResponseSlot.isPending_iff (r : ResponseSlot) : r.isPending = true ↔ ∃ rq, r = .pending rq := by
  cases r <;> simp [isPending]

theorem State.Holding.of_slotsLeadTo {s u : State} (holding : s.Holding) (leads : s.SlotsLeadTo u) : u.Holding := by
  obtain ⟨-, pending, write⟩ := holding
  obtain ⟨⟨law, same | ⟨⟨frame, ready⟩, -⟩⟩, write', -⟩ := leads
  · exact ⟨law, same ▸ pending, write'.trans write⟩
  · simp [ready, ResponseSlot.isPending] at pending

theorem State.Holding.notSending {s : State} (holding : s.Holding) : s.frames.response ≠ .sending := by
  intro sending
  simpa [sending, ResponseSlot.isPending] using holding.2.1

theorem State.Holding.takeBetween {s : State} (holding : s.Holding) (events : List Interposed) (n : Nat) :
    (takeBetween events n s).Holding :=
  KeptByCommands.foldl (P := State.Holding) _
    (fun _ e held => held.of_slotsLeadTo (takeEvent_slots held.1 e.event fun _ => held.notSending)) _ holding

theorem State.Holding.ofSame {s u : State} (holding : s.Holding) (same : s.SameSlots u) : u.Holding :=
  holding.of_slotsLeadTo (.ofSame holding.1 same)

theorem State.Holding.acknowledgeAll {s : State} (holding : s.Holding) : (acknowledgeAll s).1.Holding := by
  unfold Machine.acknowledgeAll
  generalize s.inside = events
  suffices ∀ (ts : List Xf) (u : State) (n : Nat), u.Holding → (ts.foldl (acknowledgeTurn events) (u, n)).1.Holding from
    this _ _ _ (holding.ofSame (.refl s))
  intro ts
  induction ts with
  | nil => exact fun _ _ hu => hu
  | cons t ts ih =>
    exact fun u _ hu => ih _ _ ((hu.takeBetween events t.val).ofSame
      ((sameSlots_keptByBlocks _).acknowledgeFlag t (.refl _)))

theorem State.Holding.clearAll {s : State} (holding : s.Holding) : (clearAll s).1.Holding := by
  unfold Machine.clearAll
  generalize s.inside = events
  suffices ∀ (bs : List BankId) (u : State) (n : Nat), u.Holding → (bs.foldl (clearTurn events) (u, n)).1.Holding from
    this _ _ _ (holding.ofSame (.refl s))
  intro bs
  induction bs with
  | nil => exact fun _ _ hu => hu
  | cons b bs ih =>
    exact fun u _ hu => ih _ _ ((hu.takeBetween events b.index.val).ofSame (clearOne_sameSlots b _))

/-- After a request's work the slot is still PENDING, both ports keep their laws before a decision, and no store write is
in progress. -/
theorem State.Holding.requestWork {s u : State} (holding : s.Holding) (work : RequestWork s u) :
    u.frames.PortALaw ∧ u.frames.PortBLaw ∧ u.frames.response ≠ .sending ∧ u.write = none := by
  have laws : ∀ {v : State}, v.Holding →
      v.frames.PortALaw ∧ v.frames.PortBLaw ∧ v.frames.response ≠ .sending ∧ v.write = none :=
    fun held => ⟨held.1.portA, held.1.portB, held.notSending, held.2.2⟩
  cases work
  case acknowledgeOne t => exact laws (holding.ofSame ((sameSlots_keptByBlocks s).acknowledgeFlag t (.refl s)))
  case acknowledgeEach => exact laws holding.acknowledgeAll
  case clearOne b => exact laws (holding.ofSame (clearOne_sameSlots b s))
  case clearEach => exact laws holding.clearAll
  case buildStatus =>
    obtain ⟨portA, portB, slot⟩ := FrameHandler.putStatus_laws s.statusFrame holding.1.portA holding.1.portB
    have notSending := slot.symm ▸ holding.notSending
    unfold buildStatus
    split
    · rw [report_setFrames]
      exact ⟨portA, portB, notSending, (report_sameSlots _ _ _ s).2.1.trans holding.2.2⟩
    · exact ⟨portA, portB, notSending, holding.2.2⟩
  case armRestart => exact laws holding
  all_goals exact laws (holding.ofSame (.refl s))

/-! ### The commands -/

theorem State.SlotLaw.of_slotsLeadTo {s u : State} (law : s.SlotLaw) (leads : s.SlotsLeadTo u) : u.SlotLaw := by
  obtain ⟨-, writing, armed⟩ := law
  obtain ⟨⟨law', slot⟩, write, armed'⟩ := leads
  rw [← write] at writing
  rw [← armed'] at armed
  obtain same | ⟨⟨frame, ready⟩, sending⟩ := slot
  · rw [← same] at writing armed
    exact ⟨law', writing, armed⟩
  · rw [ready] at writing
    refine ⟨law', ?_, fun _ => .inl sending⟩
    rw [sending]
    exact writing

/-- An answer composed and the arbiter's decision made: the slot is READY or SENDING, and no store write is in
progress. -/
theorem slotLaw_answered {u : State} {f : FrameHandler} {frame : List Byte} (portA : f.PortALaw) (portB : f.PortBLaw)
    (slot : f.response = .ready frame) (write : u.write = none) : (arbiter (u.setFrames f)).SlotLaw := by
  have law := FrameHandler.arbitrate_law portA portB
  have answered : f.arbitrate.response = .ready frame ∨ f.arbitrate.response = .sending := by
    obtain same | ⟨-, sending⟩ := f.arbitrate_response
    · exact .inl (same.trans slot)
    · exact .inr sending
  refine ⟨law, iff_of_false ?_ ?_, fun _ => ?_⟩
  · show ¬u.write.isSome = true
    simp [write]
  · show ¬f.arbitrate.response.isPending = true
    obtain h | h := answered <;> simp [h, ResponseSlot.isPending]
  · exact answered.symm.imp id fun h => ⟨frame, h⟩

theorem slotLaw_respond {u : State} (portA : u.frames.PortALaw) (portB : u.frames.PortBLaw)
    (slot : u.frames.response ≠ .sending) (write : u.write = none) (rq : Request) (r : Result) (d : Nat)
    (data : List Byte) : (arbiter (respond rq r d data u)).SlotLaw := by
  obtain ⟨portA', portB'⟩ :=
    FrameHandler.putResponse_laws (responseFrame u.stationAddress rq r d data) portA portB slot
  exact slotLaw_answered portA' portB' rfl write

/-- With the slot FREE no write is in progress, no restart is armed, and port B sends no response. -/
theorem State.SlotLaw.of_free {s : State} (law : s.SlotLaw) (free : s.frames.response = .free) :
    s.write = none ∧ s.restartArmed = false := by
  obtain ⟨-, writing, armed⟩ := law
  rw [free] at writing armed
  refine ⟨?_, ?_⟩
  · simpa [ResponseSlot.isPending] using writing
  · simpa using armed

theorem State.SlotLaw.holdRequest {s : State} (law : s.SlotLaw) (free : s.frames.response = .free) (rq : Request) :
    (holdRequest rq s).Holding := by
  obtain ⟨portA, portB, settled⟩ := FrameHandler.law_iff.1 law.1
  have notSending : s.frames.response ≠ .sending := by simp [free]
  refine ⟨FrameHandler.law_iff.2 ⟨portA, portB.withResponse notSending nofun, fun idle => ?_⟩, rfl, (law.of_free free).1⟩
  obtain ⟨empty, noOwn⟩ := settled idle
  refine ⟨empty, ?_⟩
  simpa [FrameHandler.ownWaiting, free, Machine.holdRequest] using noOwn

theorem takenIn_slotLaw {s t : State} {source : Byte} {body : List Byte} (law : s.SlotLaw)
    (taken : TakenIn source body s t) : t.SlotLaw := by
  cases taken
  case closed => exact law
  case overrun => exact law.of_slotsLeadTo (.ofSame law.1 (report_sameSlots _ _ _ s))
  case notReady _ free =>
    have held := law.holdRequest free ⟨source, body⟩
    rw [← arbiter_respond_holdRequest _ ⟨source, body⟩]
    exact slotLaw_respond held.1.portA held.1.portB held.notSending held.2.2 _ _ _ _
  case served serving does =>
    have held := law.holdRequest serving.2 ⟨source, body⟩
    cases does
    case answered u work r d data =>
      obtain ⟨portA, portB, notSending, write⟩ := held.requestWork work
      exact slotLaw_respond portA portB notSending write _ _ _ _
    case begun w _ =>
      obtain ⟨law', slot⟩ := FrameHandler.leadsTo_arbitrate held.1.portA held.1.portB rfl
      have pending : (Machine.holdRequest ⟨source, body⟩ s).frames.arbitrate.response = .pending ⟨source, body⟩ := by
        obtain same | ⟨⟨_, ready⟩, -⟩ := slot
        · exact same
        · cases ready
      have disarmed : s.restartArmed = false := (law.of_free serving.2).2
      refine ⟨law', iff_of_true rfl ?_, fun armed => ?_⟩
      · exact (ResponseSlot.isPending_iff _).2 ⟨_, pending⟩
      · cases disarmed.symm.trans armed

/-- The frame handler of a start: only port A may be sending. -/
theorem FrameHandler.start_law (txA : Option (List Byte)) : ({ FrameHandler.initial with txA := txA } : FrameHandler).Law :=
  ⟨Nat.zero_le 8, Nat.zero_le 4, Nat.zero_le 8, fun _ => rfl, fun _ => ⟨rfl, rfl⟩, iff_of_false nofun nofun⟩

theorem discardWorking_slotLaw (phase : Phase) (s : State) : (discardWorking phase s).SlotLaw :=
  ⟨FrameHandler.start_law none, iff_of_false nofun nofun, nofun⟩

/-- A warm restart's values, with no store write in progress. -/
theorem warmValues_slotLaw {s : State} (write : s.write = none) : (warmValues s).SlotLaw := by
  refine ⟨FrameHandler.start_law s.frames.txA, iff_of_false ?_ nofun, nofun⟩
  show ¬s.write.isSome = true
  simp [write]

theorem State.SlotLaw.ofSame {s u : State} (law : s.SlotLaw) (same : s.SameSlots u) : u.SlotLaw :=
  law.of_slotsLeadTo (.ofSame law.1 same)

theorem State.RestoresTo.sameSlots {s t : State} (h : s.RestoresTo t) : s.SameSlots t := by
  unfold RestoresTo at h
  rw [h]
  exact .refl s

/-- Port B's completion of the response goes on with what the response leaves to do. -/
theorem portBCompletes_of_response {s : State} {frame : List Byte} (sends : s.frames.txB = some (.response, frame))
    (sent : State → State) : portBCompletes sent s = sent (s.setFrames { s.frames with txB := none }) := by
  rw [portBCompletes, sends]

theorem responseSent_of_armed {s : State} (armed : s.restartArmed = true) : responseSent s = warmRestart s := if_pos armed

theorem responseSent_of_not_armed {s : State} (armed : s.restartArmed = false) :
    responseSent s = arbiter (s.setFrames { s.frames with response := .free }) := by
  simp [responseSent, armed]

theorem portBCompletes_slotLaw {s : State} (law : s.SlotLaw) : (portBCompletes responseSent s).SlotLaw := by
  by_cases sending : s.frames.response = .sending
  · obtain ⟨frame, sends⟩ := FrameHandler.sendsResponse_iff.1 (law.1.portB.2.2.1 sending)
    have write : s.write = none := by simpa [sending, ResponseSlot.isPending] using law.2.1
    rw [portBCompletes_of_response sends]
    cases armed : s.restartArmed with
    | true =>
      rw [responseSent_of_armed (s := s.setFrames { s.frames with txB := none }) armed]
      exact State.SlotLaw.ofSame (warmValues_slotLaw write) (restoreTables_restoresTo _).sameSlots
    | false =>
      rw [responseSent_of_not_armed (s := s.setFrames { s.frames with txB := none }) armed]
      have freed : ({ s.frames with txB := none, response := .free } : FrameHandler).PortBLaw := law.1.portB.freed nofun
      refine ⟨FrameHandler.arbitrate_law (f := { s.frames with txB := none, response := .free }) law.1.portA freed,
        iff_of_false ?_ ?_, fun h => nomatch armed.symm.trans h⟩
      · show ¬s.write.isSome = true
        simp [write]
      · show ¬(FrameHandler.arbitrate { s.frames with txB := none, response := .free }).response.isPending = true
        obtain same | ⟨⟨_, ready⟩, -⟩ :=
          FrameHandler.arbitrate_response { s.frames with txB := none, response := .free }
        · simp [same, ResponseSlot.isPending]
        · cases ready
  · exact law.of_slotsLeadTo (portBCompletes_slots law.1 _ sending)

/-- A property that the blocks and the writes of the live tables keep is kept by the taking of a completed write. -/
theorem KeptByBlocks.takeWritten {P : State → Prop} (blocks : KeptByBlocks P) (setup : ∀ u e, P u → P (u.setSetup e))
    (channelEntry : ∀ u c e, P u → P (u.setChannelEntry c e)) (xfEntry : ∀ u t e, P u → P (u.setXfEntry t e))
    (memberMap : ∀ u m, P u → P { u with memberMap := m }) (w : StoreWrite) {s : State} (hs : P s) :
    P (takeWritten w s) := by
  cases w
  case setup e => exact blocks.formQuorum (setup _ _ hs)
  case guardSpan e => exact setup _ _ hs
  case channelEntry c e => exact channelEntry _ _ _ hs
  case xfEntry t e => exact blocks.zeroIdleThermal _ (memberMap _ _ (xfEntry _ _ _ hs))
  case channelService c e =>
    unfold Machine.takeWritten
    dsimp only
    split
    · exact blocks.placeChannel _ (channelEntry _ _ _ hs)
    · exact blocks.removeChannel _ (channelEntry _ _ _ hs)
  case xfService t e =>
    unfold Machine.takeWritten
    dsimp only
    split
    · exact blocks.placeXf _ (xfEntry _ _ _ hs)
    · exact blocks.removeXf _ (xfEntry _ _ _ hs)

theorem takeWritten_sameSlots (w : StoreWrite) (s : State) : s.SameSlots (takeWritten w s) :=
  (sameSlots_keptByBlocks s).takeWritten (fun _ _ => id) (fun _ _ _ => id) (fun _ _ _ => id) (fun _ _ => id) w (.refl s)

theorem writeCompletes_slotLaw {s : State} (law : s.SlotLaw) : (writeCompletes s).SlotLaw := by
  unfold writeCompletes
  split
  · exact law
  next w writing =>
    obtain ⟨rq, pending⟩ := (ResponseSlot.isPending_iff _).1 (law.2.1.1 (by simp [writing]))
    obtain ⟨frames, write, -⟩ := takeWritten_sameSlots w (finishWrite w s)
    have frames' : (takeWritten w (finishWrite w s)).frames = s.frames := frames
    generalize takeWritten w (finishWrite w s) = u at frames' write
    rw [answerWrite, frames', pending]
    exact slotLaw_respond (frames'.symm ▸ law.1.portA) (frames'.symm ▸ law.1.portB) (by simp [frames', pending]) write
      _ _ _ _

theorem holdInReset_slotLaw {s : State} (law : s.SlotLaw) : (holdInReset s).SlotLaw := by
  unfold holdInReset
  split
  · exact law
  · exact law
  · exact discardWorking_slotLaw _ _
  · exact discardWorking_slotLaw _ _

theorem resetSpell_slotLaw {s : State} (law : s.SlotLaw) (spell : ResetSpell) : (resetSpell spell s).SlotLaw := by
  unfold resetSpell
  split
  · exact holdInReset_slotLaw law
  · dsimp only
    split
    · exact holdInReset_slotLaw (law.ofSame (.refl s))
    · exact law.ofSame (.refl s)

theorem exec_slotLaw {i : Instr} {s t : State} (law : s.SlotLaw) (ht : exec i s = .next t) : t.SlotLaw := by
  obtain taken | ⟨_, e, other⟩ | _ | _ | _ | spell | _ | straps := exec_executed ht
  · exact takenIn_slotLaw law taken
  · exact law.of_slotsLeadTo (takeEvent_slots law.1 e fun h => absurd h other)
  · exact portBCompletes_slotLaw law
  · exact writeCompletes_slotLaw law
  · exact law.ofSame ((sameSlots_keptByBlocks s).restoreCompletes (fun _ _ => id) (.refl s) (.refl s))
  · exact resetSpell_slotLaw law spell
  · exact discardWorking_slotLaw _ _
  · refine State.SlotLaw.ofSame ?_ (restoreTables_restoresTo _).sameSlots
    exact discardWorking_slotLaw .restoring (tearWrite s)

/-- A property that the queue of commands and a tick leave, and that every command keeps, is kept by every step. -/
theorem step_keeps {P : State → Prop} (pending : ∀ u p, P u → P { u with pending := p }) (tick : ∀ u, P u → P (tick u))
    (exec : ∀ i u t, P u → exec i u = .next t → P t) {s t : State} (hs : P s) (ht : step s = .next t) : P t := by
  obtain ⟨-, rfl⟩ | ⟨c, rest, -, executes⟩ := step_cases ht
  · unfold idle
    split
    · split
      · exact tick _ hs
      · exact pending _ _ hs
    · exact hs
  · exact exec _ _ _ (pending _ _ hs) executes

/-- Settles O8: an event leads the slots on, an answer makes the slot READY with no write in progress, and a write begun
leaves it PENDING. -/
theorem slotsStaySound : Obligations.SlotsStaySound :=
  fun _ _ law ht => step_keeps (fun _ _ => id) (fun _ => id) (fun _ _ _ => exec_slotLaw) law ht

end Sys2Proof.Machine

/-! PROOF. What a command can do to the records of the blocks, and the channel timers (section 1.5) by it. -/

namespace Sys2Proof.Machine

/-! ### The commands and the blocks -/

/-- `u` holds the values of a start or of an end of the working state of `s`: the part does not run, every channel and
transformer is OFF, Θ and T are 0 or kept, and a store write is in progress only where port B was sending the response
that a warm restart waited for (R165, R166). -/
structure State.StartsAs (s u : State) : Prop where
  phase : u.phase ≠ .running
  channels : ∀ c, u.channel c = ChannelRec.off
  xfs : ∀ t, u.xf t = XfRec.off ∨ u.xf t = XfRec.offWith (s.xf t).theta (s.xf t).thermal
  station : u.station = StationRec.initial
  write : u.write = none ∨ s.frames.sendsResponse = true ∧ u.write = s.write

namespace State.StartsAs

variable {s u v : State}

theorem restored (starts : s.StartsAs u) (restores : u.RestoresTo v) : s.StartsAs v := by
  obtain ⟨phase, channels, xfs, station, write⟩ := starts
  unfold State.RestoresTo at restores
  rw [restores]
  exact ⟨phase, channels, xfs, station, write⟩

theorem discardWorking {phase : Phase} (stopped : phase ≠ .running) (a : Byte) :
    s.StartsAs { discardWorking phase u with stationAddress := a } where
  phase := stopped
  channels := reset_channel
  xfs t := .inl (reset_xf t)
  station := rfl
  write := .inl rfl

theorem warmValues (sends : s.frames.sendsResponse = true) (f : FrameHandler) :
    s.StartsAs (warmValues (s.setFrames f)) where
  phase := nofun
  channels := reset_channel
  xfs t := .inr (warmValues_xf _ t)
  station := rfl
  write := .inr ⟨sends, rfl⟩

end State.StartsAs

theorem answerWrite_sameBlocks (w : StoreWrite) (s : State) : s.SameBlocks (answerWrite w s) := by
  unfold answerWrite
  split <;> exact .refl s

/-- A property of the blocks that the events keep is kept by every command that begins with it, if it is kept where a
store write begins and completes and where the restore is completed, and holds wherever the working state starts. -/
theorem KeptByEvents.exec {P : State → Prop} (h : KeptByEvents P) {s t : State} {i : Instr} (hs : P s)
    (begun : ∀ w, s.phase = .running → w.Supposes s → P (s.setWrite (some w)))
    (written : ∀ w, s.write = some w → P (takeWritten w (finishWrite w s)))
    (takenUp : s.phase = .restoring → P (restoreCompletes s))
    (starts : ∀ u, s.StartsAs u → P u) (ht : Machine.exec i s = .next t) : P t := by
  have ends : ∀ (u : State) (phase : Phase), phase ≠ .running → P (discardWorking phase u) := fun u phase stopped =>
    starts _ (.discardWorking (u := u) stopped u.stationAddress)
  have held : ∀ u : State, s.SameBlocks u → P (holdInReset u) := fun u same => by
    unfold holdInReset
    split
    · exact h.beside same hs
    · exact h.beside same hs
    · exact ends _ _ nofun
    · exact ends _ _ nofun
  obtain taken | ⟨_, e, _⟩ | _ | _ | _ | spell | _ | straps := exec_executed ht
  · exact h.takenIn (fun w running supposes _ => begun w running supposes) taken hs
  · exact h.takeEvent e hs
  · unfold Machine.portBCompletes
    split
    · exact hs
    · next frame sends =>
      unfold responseSent
      split
      · exact starts _ (.restored (.warmValues (by simp [FrameHandler.sendsResponse, sends]) _)
          (restoreTables_restoresTo _))
      · exact h.beside (s := s) (.refl s) hs
    · exact h.beside (s := s) (.refl s) hs
    · exact h.beside (s := s) (.refl s) hs
  · unfold writeCompletes
    split
    · exact hs
    · next w write => exact h.beside (answerWrite_sameBlocks w _) (written w write)
  · by_cases restoring : s.phase = .restoring
    · exact takenUp restoring
    · unfold Machine.restoreCompletes
      rw [if_neg restoring]
      exact hs
  · cases spell
    · exact held s (.refl s)
    · unfold resetSpell
      dsimp only
      split
      · exact held _ (.refl s)
      · exact h.beside (s := s) (.refl s) hs
  · exact ends _ _ nofun
  · have cold : s.StartsAs { discardWorking .restoring (tearWrite s) with stationAddress := addressOfStraps straps } :=
      .discardWorking (phase := .restoring) nofun _
    unfold coldStart
    exact starts _ (cold.restored (restoreTables_restoresTo _))

/-- The restore completion, stage by stage: the channels and the member map keep what the running part begins with, and
the transformers and the station lead on from it (R180). -/
theorem restoreCompletes_leads {P Q R : State → Prop} {s : State} (restoring : s.phase = .restoring)
    (run : P { s with phase := .running, clock := Clock.initial })
    (channel : ∀ {u} c, P u → P (takeUpChannel u c)) (memberMap : ∀ {u} m, P u → P { u with memberMap := m })
    (xfs : ∀ {u}, P u → Q ((List.finRange 16).foldl (fun s t => takeUpXf t s) u))
    (station : ∀ {u}, Q u → R (stationTakeUp u)) : R (restoreCompletes s) := by
  unfold restoreCompletes
  rw [if_pos restoring]
  dsimp only
  generalize ({ s with phase := .running, clock := Clock.initial } : State) = r at run ⊢
  have channels : P ((List.finRange 40).foldl takeUpChannel r) := KeptByCommands.foldl _ (fun _ c => channel c) _ run
  generalize (List.finRange 40).foldl takeUpChannel r = u at channels ⊢
  exact station (xfs (memberMap _ channels))

end Sys2Proof.Machine

/-! PROOF. The channel timers run with the state (section 1.5): work beside the timers, the changes of state, and the
commands by them. -/

namespace Sys2Proof.Machine

/-! ### The law of one channel -/

/-- The stale timer and the lost timer of one channel run in just the states that run them. -/
def ChannelRec.TimersLaw (r : ChannelRec) : Prop :=
  (r.staleTimer.isSome = true ↔ r.state = .valid ∨ r.state = .suspect) ∧
  (r.lostTimer.isSome = true ↔ r.state ≠ .off ∧ r.state ≠ .lost)

theorem State.channelTimersLaw_iff (s : State) : s.ChannelTimersLaw ↔ ∀ c, (s.channel c).TimersLaw := .rfl

/-- The state runs the lost timer: the channel is in service and not LOST. -/
def ChannelState.runsLost (x : ChannelState) : Bool := x != .off && x != .lost

theorem ChannelState.live_iff (x : ChannelState) : x.live = true ↔ x = .valid ∨ x = .suspect := by
  cases x <;> simp [live]

theorem ChannelState.runsLost_iff (x : ChannelState) : x.runsLost = true ↔ x ≠ .off ∧ x ≠ .lost := by
  simp [runsLost]

/-- Every channel but `ch` keeps its law, and `ch` is in the state `x` with its timers running or not as told. -/
structure State.Timed (s : State) (ch : Channel) (x : ChannelState) (stale lost : Bool) : Prop where
  others : ∀ o, o ≠ ch → (s.channel o).TimersLaw
  state : (s.channel ch).state = x
  stale : (s.channel ch).staleTimer.isSome = stale
  lost : (s.channel ch).lostTimer.isSome = lost

namespace State.Timed

variable {s : State} {ch : Channel} {x : ChannelState} {stale lost : Bool}

theorem ofLaw (law : s.ChannelTimersLaw) (ch : Channel) :
    s.Timed ch (s.channel ch).state (s.channel ch).state.live (s.channel ch).state.runsLost where
  others o _ := law o
  state := rfl
  stale := by rw [Bool.eq_iff_iff, ChannelState.live_iff]; exact (law ch).1
  lost := by rw [Bool.eq_iff_iff, ChannelState.runsLost_iff]; exact (law ch).2

theorem law (timed : s.Timed ch x x.live x.runsLost) : s.ChannelTimersLaw := by
  obtain ⟨others, rfl, stale, lost⟩ := timed
  intro o
  by_cases same : o = ch
  · subst same
    rw [Bool.eq_iff_iff, ChannelState.live_iff] at stale
    rw [Bool.eq_iff_iff, ChannelState.runsLost_iff] at lost
    exact ⟨stale, lost⟩
  · exact others o same

theorem setChannel {r : ChannelRec} {y : ChannelState} {a b : Bool} (timed : s.Timed ch x stale lost)
    (state : r.state = y) (staleTimer : r.staleTimer.isSome = a) (lostTimer : r.lostTimer.isSome = b) :
    (s.setChannel ch r).Timed ch y a b where
  others o other := by rw [State.setChannel_channel, if_neg (Ne.symm other)]; exact timed.others o other
  state := by rw [State.setChannel_channel, if_pos rfl]; exact state
  stale := by rw [State.setChannel_channel, if_pos rfl]; exact staleTimer
  lost := by rw [State.setChannel_channel, if_pos rfl]; exact lostTimer

end State.Timed

/-! ### Work beside the timers -/

/-- Each channel of `u` is in its state of `s`, with the same timers running. -/
def State.SameTiming (s u : State) : Prop :=
  ∀ c, (u.channel c).state = (s.channel c).state ∧
    (u.channel c).staleTimer.isSome = (s.channel c).staleTimer.isSome ∧
    (u.channel c).lostTimer.isSome = (s.channel c).lostTimer.isSome

namespace State.SameTiming

variable {s t u : State}

theorem refl (s : State) : s.SameTiming s := fun _ => ⟨rfl, rfl, rfl⟩

theorem trans (first : s.SameTiming t) (second : t.SameTiming u) : s.SameTiming u := fun c => by
  obtain ⟨state, stale, lost⟩ := first c
  obtain ⟨state', stale', lost'⟩ := second c
  exact ⟨state'.trans state, stale'.trans stale, lost'.trans lost⟩

theorem ofChannels (same : u.channels = s.channels) : s.SameTiming u := fun c => by
  unfold State.channel
  rw [same]
  exact ⟨rfl, rfl, rfl⟩

theorem mapChannel (s : State) (ch : Channel) (f : ChannelRec → ChannelRec)
    (hf : ∀ r, (f r).state = r.state ∧ (f r).staleTimer = r.staleTimer ∧ (f r).lostTimer = r.lostTimer := by
      exact fun _ => ⟨rfl, rfl, rfl⟩) :
    s.SameTiming (s.mapChannel ch f) := fun c => by
  rw [State.mapChannel_eq, State.setChannel_channel]
  split_ifs with same
  · subst same
    obtain ⟨state, stale, lost⟩ := hf (s.channel ch)
    exact ⟨state, congrArg _ stale, congrArg _ lost⟩
  · exact ⟨rfl, rfl, rfl⟩

theorem law (same : s.SameTiming u) (law : s.ChannelTimersLaw) : u.ChannelTimersLaw := fun c => by
  obtain ⟨state, stale, lost⟩ := same c
  rw [state, stale, lost]
  exact law c

theorem timed {ch : Channel} {x : ChannelState} {stale lost : Bool} (same : s.SameTiming u)
    (timed : s.Timed ch x stale lost) : u.Timed ch x stale lost where
  others o other := by
    obtain ⟨state, stale, lost⟩ := same o
    unfold ChannelRec.TimersLaw
    rw [state, stale, lost]
    exact timed.others o other
  state := (same ch).1.trans timed.state
  stale := (same ch).2.1.trans timed.stale
  lost := (same ch).2.2.trans timed.lost

theorem takeChange (key : EventKey) (f t : Nat) (s : State) : s.SameTiming (takeChange key f t s) := refl s

theorem withdrawalNotice (ch : Channel) (s : State) : s.SameTiming (withdrawalNotice ch s) := refl s

theorem report (b : BankId) (code : ErrorCode) (x : Byte) (s : State) : s.SameTiming (report b code x s) := by
  rw [report_eq]
  exact refl s

theorem rateNotice (c : Channel) (k : ChannelKind) (r : Int) (s : State) : s.SameTiming (rateNotice c k r s) := by
  rw [rateNotice_eq]
  exact refl s

theorem channelNotice (ch : Channel) (s : State) : s.SameTiming (channelNotice ch s) := by
  cases place : s.memberMap[ch] with
  | none => rw [(channelNotice_worksOn ch s).1 place]; exact refl s
  | some at' => exact ofChannels ((channelNotice_worksOn ch s).2 at'.1 at'.2 place).1

theorem blockArrival (ch : Channel) (c : Cycle) (s : State) : s.SameTiming (blockArrival ch c s) := by
  cases place : s.memberMap[ch] with
  | none => rw [(blockArrival_worksOn ch c s).1 place]; exact refl s
  | some at' => exact ofChannels ((blockArrival_worksOn ch c s).2 at'.1 at'.2 place).1

theorem clearSecond (ch : Channel) (s : State) : s.SameTiming (clearSecond ch s) := by
  unfold Machine.clearSecond
  split
  · exact (mapChannel s ch _).trans (withdrawalNotice ch _)
  · exact refl s

theorem reseed (ch : Channel) (s : State) : s.SameTiming (reseed ch s) :=
  (mapChannel s ch _).trans (clearSecond ch _)

theorem formRate (ch : Channel) (a b : Int) (s : State) : s.SameTiming (formRate ch a b s) := by
  unfold Machine.formRate
  dsimp only
  split
  · exact (mapChannel s ch _).trans (rateNotice _ _ _ _)
  · exact ((report _ _ _ s).trans (mapChannel _ ch _)).trans (rateNotice _ _ _ _)

theorem fieldOutput (ch : Channel) (s : State) : s.SameTiming (fieldOutput ch s) := by
  unfold Machine.fieldOutput perSecondAdd fieldBoundary
  dsimp only
  split
  · split
    · split
      · exact mapChannel s ch _
      · exact (mapChannel s ch _).trans (formRate _ _ _ _)
    · exact mapChannel s ch _
  · exact refl s

theorem stageMean (ch : Channel) (samples : List Int) (s : State) : s.SameTiming (stageMean ch samples s) := by
  unfold Machine.stageMean
  split
  · exact (mapChannel s ch _).trans (report _ _ _ _)
  split
  · exact (mapChannel s ch _).trans (report _ _ _ _)
  · exact mapChannel s ch _

theorem stageFilter (ch : Channel) (first : Bool) (s : State) : s.SameTiming (stageFilter ch first s) :=
  mapChannel s ch _

theorem stageScale (ch : Channel) (s : State) : s.SameTiming (stageScale ch s) := by
  unfold Machine.stageScale
  dsimp only
  split
  · exact mapChannel s ch _
  · exact (report _ _ _ s).trans (mapChannel _ ch _)

theorem gapCycles (ch : Channel) (n : Nat) (s : State) : s.SameTiming (gapCycles ch n s) := by
  induction n generalizing s with
  | zero => exact refl s
  | succ n ih => exact (((stageFilter ch false s).trans (stageScale ch _)).trans (fieldOutput ch _)).trans (ih _)

theorem counted (ch : Channel) (bad : Bool) (s : State) : s.SameTiming (s.mapChannel ch (ChannelRec.counted bad)) :=
  mapChannel s ch _ fun r => by cases bad <;> exact ⟨rfl, rfl, rfl⟩

theorem handOn (ch : Channel) (c : Cycle) (s : State) : s.SameTiming (handOn ch c s) := by
  unfold Machine.handOn
  split
  · exact blockArrival ch c s
  · exact fieldOutput ch s

end State.SameTiming

/-! ### Changes of state -/

namespace State.Timed

variable {s : State} {ch : Channel} {x : ChannelState} {stale lost : Bool}

theorem changeChannelState (timed : s.Timed ch x stale lost) (new : ChannelState) :
    (changeChannelState ch new s).Timed ch new stale lost := by
  have changed := timed.setChannel (r := { s.channel ch with state := new }) rfl timed.stale timed.lost
  exact ((SameTiming.takeChange _ _ _ _).trans (.channelNotice ch _)).timed changed

/-- A reseed with entry to SETTLING leaves the stale timer stopped and the lost timer as it was. -/
theorem settleAgain (timed : s.Timed ch x x.live lost) : (settleAgain ch s).Timed ch .settling false lost := by
  have reseeded := (SameTiming.reseed ch s).timed timed
  unfold Machine.settleAgain
  split
  · next settling =>
    obtain rfl : x = .settling := timed.state.symm.trans settling
    exact reseeded
  · have stopped := reseeded.setChannel (r := { (reseed ch s).channel ch with staleTimer := none }) rfl rfl
      reseeded.lost
    exact stopped.changeChannelState .settling

/-- An accepted input runs the lost timer, and the stale timer in the states that run it. -/
theorem acceptInput (timed : s.Timed ch x x.live lost) (runs : x.runsLost = true) (c : Cycle) :
    (acceptInput ch c s).ChannelTimersLaw := by
  refine State.Timed.law (ch := ch) (x := x) (timed.setChannel timed.state ?_ runs.symm)
  show (if (s.channel ch).state.live = true then s.fullStale else (s.channel ch).staleTimer).isSome = x.live
  split_ifs with live
  · rw [timed.state] at live
    exact live.symm
  · exact timed.stale

end State.Timed

section Conditioning
variable {s : State} (law : s.ChannelTimersLaw) (ch : Channel)
include law

/-- Entry to VALID from a state that keeps the lost timer running, with the stale timer started. -/
theorem enterValid_timers (runs : (s.channel ch).state.runsLost = true) (n : Nat) (f : ChannelRec → ChannelRec)
    (hf : ∀ r, (f r).state = r.state ∧ (f r).staleTimer = some n ∧ (f r).lostTimer = r.lostTimer) :
    (changeChannelState ch .valid (s.mapChannel ch f)).Timed ch .valid true true := by
  obtain ⟨state, stale, lost⟩ := hf (s.channel ch)
  have timed := State.Timed.ofLaw law ch
  have started := timed.setChannel (r := f (s.channel ch)) state (congrArg _ stale)
    ((congrArg _ lost).trans (timed.lost.trans runs))
  exact started.changeChannelState .valid

theorem settleStep_timers (settling : (s.channel ch).state = .settling) : (settleStep ch s).ChannelTimersLaw := by
  have same := State.SameTiming.mapChannel s ch (fun r => { r with settle := (s.channel ch).settle - 1 })
  unfold settleStep
  dsimp only
  split
  · refine State.Timed.law (x := .valid) (enterValid_timers (same.law law) ch ?_ _ _ fun _ => ⟨rfl, rfl, rfl⟩)
    rw [(same ch).1, settling]
    rfl
  · exact same.law law

theorem countStep_timers (first bad : Bool) : (countStep ch first bad s).ChannelTimersLaw := by
  have law' := (State.SameTiming.counted ch bad s).law law
  unfold countStep
  dsimp only
  generalize s.mapChannel ch (ChannelRec.counted bad) = u at law' ⊢
  have live : ∀ new : ChannelState, (u.channel ch).state.live = true → new.live = true → new.runsLost = true →
      (changeChannelState ch new (u.mapChannel ch ChannelRec.countsCleared)).ChannelTimersLaw := by
    intro new was live runs
    have was' : (u.channel ch).state.runsLost = true := by
      cases h : (u.channel ch).state <;> simp [h, ChannelState.live] at was ⊢ <;> rfl
    have timed := State.Timed.ofLaw law' ch
    rw [was, was'] at timed
    have changed := ((State.SameTiming.mapChannel u ch ChannelRec.countsCleared).timed
      timed).changeChannelState new
    refine State.Timed.law (ch := ch) (x := new) ?_
    rwa [live, runs]
  split
  · next settling =>
    split
    · exact settleStep_timers law' ch settling
    · exact law'
  · next valid =>
    split
    · exact live .suspect (by rw [valid]; rfl) rfl rfl
    · exact law'
  · next suspect =>
    split
    · exact live .valid (by rw [suspect]; rfl) rfl rfl
    · exact law'
  · exact law'
  · exact law'
  · exact law'

theorem processInput_timers (first : Bool) (missing : Nat) (c : Cycle) (samples : List Int) :
    (processInput ch first missing c samples s).ChannelTimersLaw := by
  have staged := (((State.SameTiming.gapCycles ch missing s).trans (.stageMean ch samples _)).trans
    (.stageFilter ch first _)).trans (.stageScale ch _)
  exact (State.SameTiming.handOn ch c _).law (countStep_timers (staged.law law) ch first _)

/-- After the return of a STALE channel the timers run with the state, and the lost timer runs as before. -/
theorem staleReturn_timed (runs : (s.channel ch).state.runsLost = true) :
    ∃ x : ChannelState, x.runsLost = true ∧ (staleReturn ch s).Timed ch x x.live true := by
  unfold staleReturn
  dsimp only
  split
  · exact ⟨.valid, rfl, enterValid_timers law ch runs _ _ fun _ => ⟨rfl, rfl, rfl⟩⟩
  · exact ⟨_, runs, runs ▸ State.Timed.ofLaw law ch⟩

theorem judgedInput_timers (runs : (s.channel ch).state.runsLost = true) (c : Cycle) (samples : List Int) :
    (judgedInput ch c samples s).ChannelTimersLaw := by
  unfold judgedInput
  split
  · exact processInput_timers ((State.Timed.ofLaw law ch).acceptInput runs c) ch _ _ _ _
  · obtain ⟨x, runs', timed⟩ := staleReturn_timed law ch runs
    exact processInput_timers (timed.acceptInput runs' c) ch _ _ _ _
  · exact (State.SameTiming.report _ _ _ s).law law
  · have reported := (State.SameTiming.report .input .sequenceBreak (subjectOf ch.val) s).law law
    exact processInput_timers ((State.Timed.ofLaw reported ch).settleAgain.acceptInput rfl c) ch _ _ _ _

theorem takeInput_timers (c : Cycle) (samples : List Int) : (takeInput ch c samples s).ChannelTimersLaw := by
  unfold takeInput
  split
  · exact law
  · exact processInput_timers ((State.Timed.ofLaw law ch).settleAgain.acceptInput rfl c) ch _ _ _ _
  · next h => exact judgedInput_timers law ch (by rw [h]; rfl) _ _
  · next h => exact judgedInput_timers law ch (by rw [h]; rfl) _ _
  · next h => exact judgedInput_timers law ch (by rw [h]; rfl) _ _
  · next h => exact judgedInput_timers law ch (by rw [h]; rfl) _ _

theorem examineBlock_timers (body : List Byte) : (examineBlock body s).ChannelTimersLaw := by
  unfold examineBlock
  split
  · split
    · refine KeptByCommands.foldl (P := State.ChannelTimersLaw) _ (fun u i hu => ?_) _ law
      unfold takeBlockInput
      split
      · exact hu
      · exact takeInput_timers hu _ _ _
    · exact (State.SameTiming.report _ _ _ s).law law
  · exact law

theorem staleExpires_timers : (staleExpires ch s).ChannelTimersLaw := by
  unfold staleExpires
  split
  · next running =>
    have timed := State.Timed.ofLaw law ch
    have live : (s.channel ch).state.live = true := timed.stale.symm.trans running
    have runs : (s.channel ch).state.runsLost = true := by
      cases h : (s.channel ch).state <;> simp [h, ChannelState.live] at live ⊢ <;> rfl
    have stopped := timed.setChannel (r := { (s.channel ch).countsCleared with staleTimer := none }) rfl rfl
      (timed.lost.trans runs)
    exact (stopped.changeChannelState .stale).law
  · exact law

theorem lostExpires_timers : (lostExpires ch s).ChannelTimersLaw := by
  unfold lostExpires
  split
  · have stopped := (State.Timed.ofLaw law ch).setChannel
      (r := { (s.channel ch).countsCleared with staleTimer := none, lostTimer := none, output := 0, clipped := false })
      rfl rfl rfl
    have reported := ((State.SameTiming.clearSecond ch _).trans
      (.report .input .channelLost (subjectOf ch.val) _)).timed stopped
    exact (reported.changeChannelState .lost).law
  · exact law

theorem placeChannel_timers : (placeChannel ch s).ChannelTimersLaw := by
  have timed := State.Timed.ofLaw law ch
  have started := timed.setChannel (r := { s.channel ch with lostTimer := s.fullLost ch }) rfl timed.stale rfl
  exact started.settleAgain.law

theorem removeChannel_timers : (removeChannel ch s).ChannelTimersLaw := by
  have cleared := (State.SameTiming.clearSecond ch s).timed (State.Timed.ofLaw law ch)
  have emptied := cleared.setChannel (r := { ChannelRec.off with state := ((clearSecond ch s).channel ch).state }) rfl rfl rfl
  exact (emptied.changeChannelState .off).law

theorem takeUpChannel_timers : (takeUpChannel s ch).ChannelTimersLaw := by
  unfold takeUpChannel
  split
  · exact ((State.Timed.ofLaw law ch).setChannel rfl rfl rfl).law (x := .settling)
  · exact law

theorem runTimers_timers (n : Nat) : (runTimers n s).ChannelTimersLaw := by
  refine State.SameTiming.law (s := s) (fun c => ?_) law
  rw [runTimers_channel]
  unfold ChannelRec.runTimers runTimer
  simp

end Conditioning

/-! ### The commands -/

theorem channelTimers_keptByEvents : KeptByEvents State.ChannelTimersLaw where
  beside := fun ⟨_, _, _, _, channels, _⟩ law => (State.SameTiming.ofChannels channels).law law
  examineBlock body law := examineBlock_timers law body
  staleExpires ch law := staleExpires_timers law ch
  lostExpires ch law := lostExpires_timers law ch
  holdExpires {s} law := by
    refine State.SameTiming.law (s := s) (.ofChannels ?_) law
    unfold holdExpires
    split
    · split
      · rfl
      · rw [enterStation_eq]; rfl
      · rw [enterStation_eq]; rfl
    · rfl
  runTimers n law := runTimers_timers law n
  acknowledgeFlag t law := (State.SameTiming.ofChannels (WorksOn.acknowledgeFlag _).1).law law

theorem takeWritten_timers {s : State} (law : s.ChannelTimersLaw) (w : StoreWrite) :
    (takeWritten w s).ChannelTimersLaw := by
  have same : ∀ {u v : State}, v.channels = u.channels → u.ChannelTimersLaw → v.ChannelTimersLaw :=
    fun h => (State.SameTiming.ofChannels h).law
  unfold takeWritten
  split
  · rw [formQuorum_eq]; exact law
  · exact law
  · exact law
  · refine same ?_ law
    unfold zeroIdleThermal
    split <;> rfl
  · split
    · exact placeChannel_timers (s := s.setChannelEntry _ _) law _
    · exact removeChannel_timers (s := s.setChannelEntry _ _) law _
  · split
    · unfold placeXf; rw [levelNotice_eq]; exact law
    · unfold removeXf; rw [levelNotice_eq]; exact law

theorem takeUpXf_timers {s : State} (law : s.ChannelTimersLaw) (t : Xf) : (takeUpXf t s).ChannelTimersLaw := by
  refine State.SameTiming.law (s := s) (.ofChannels ?_) law
  unfold takeUpXf zeroIdleThermal
  dsimp only
  split_ifs <;> rfl

theorem restoreCompletes_timers {s : State} (law : s.ChannelTimersLaw) (restoring : s.phase = .restoring) :
    (restoreCompletes s).ChannelTimersLaw := by
  have channel : ∀ {u : State} c, u.ChannelTimersLaw → (takeUpChannel u c).ChannelTimersLaw :=
    fun c law => takeUpChannel_timers law c
  have xfs : ∀ {u : State}, u.ChannelTimersLaw →
      ((List.finRange 16).foldl (fun s t => takeUpXf t s) u).ChannelTimersLaw := fun {u} law =>
    KeptByCommands.foldl (P := State.ChannelTimersLaw) (s := u) _ (fun _ t law => takeUpXf_timers law t) _ law
  have station : ∀ {u : State}, u.ChannelTimersLaw → (stationTakeUp u).ChannelTimersLaw := fun law => by
    unfold stationTakeUp
    rw [formQuorum_eq]
    exact law
  exact restoreCompletes_leads (P := State.ChannelTimersLaw) (Q := State.ChannelTimersLaw)
    (R := State.ChannelTimersLaw) restoring law channel (fun _ => id) xfs station

/-- Settles O9: every update of a channel record keeps the law, but those by which the channel changes state; and those
set the timers of the new state first. -/
theorem channelTimersStayWithTheState : Obligations.ChannelTimersStayWithTheState := by
  intro s t law stepped
  refine step_keeps (P := State.ChannelTimersLaw) (fun _ _ => id) (fun _ law => runTimers_timers law 1) ?_ law stepped
  intro i s t law executed
  refine channelTimers_keptByEvents.exec law (fun _ _ _ => law) (fun w _ => takeWritten_timers (s := finishWrite w s) law w)
    (restoreCompletes_timers law) (fun u starts c => ?_) executed
  rw [starts.channels c]
  exact ⟨iff_of_false nofun nofun, iff_of_false nofun fun h => h.1 rfl⟩

end Sys2Proof.Machine

/-! PROOF. The induction over the work of the evaluator, of conditioning and of the storm monitor, once more, for the
properties that look into the transformer records: what each operation does to the fields that make a transformer's
standing (section 3.3, R33, R57, R63, R78). -/

namespace Sys2Proof.Machine

/-! ### The reported level, record by record -/

/-- The record after its reported level is re-derived (R63). -/
def XfRec.rederived (e : XfEntry) (r : XfRec) : XfRec := r.withReported e.latch (candidateLevel e.latch r)

/-- `r` agrees with `q` in all but the quality, the assembly, the output and the running second. -/
structure XfRec.SameStanding (q r : XfRec) : Prop where
  inService : r.inService = q.inService
  levels : r.levels = q.levels
  reported : r.reported = q.reported
  unack : r.unack = q.unack
  theta : r.theta = q.theta
  thermal : r.thermal = q.thermal

theorem XfRec.withReported_of_eq {latch : Bool} {new : Level} {r : XfRec} (h : r.reported = new) :
    r.withReported latch new = r := if_pos h

@[simp] theorem XfRec.withReported_inService (latch : Bool) (new : Level) (r : XfRec) :
    (r.withReported latch new).inService = r.inService := by
  unfold withReported
  split_ifs <;> rfl

@[simp] theorem XfRec.withReported_levels (latch : Bool) (new : Level) (r : XfRec) :
    (r.withReported latch new).levels = r.levels := by
  unfold withReported
  split_ifs <;> rfl

@[simp] theorem XfRec.withReported_reported (latch : Bool) (new : Level) (r : XfRec) :
    (r.withReported latch new).reported = new := by
  unfold withReported
  split_ifs with same
  · exact same
  all_goals rfl

@[simp] theorem XfRec.withReported_theta (latch : Bool) (new : Level) (r : XfRec) :
    (r.withReported latch new).theta = r.theta := by
  unfold withReported
  split_ifs <;> rfl

@[simp] theorem XfRec.withReported_thermal (latch : Bool) (new : Level) (r : XfRec) :
    (r.withReported latch new).thermal = r.thermal := by
  unfold withReported
  split_ifs <;> rfl

@[simp] theorem XfRec.rederived_inService (e : XfEntry) (r : XfRec) : (r.rederived e).inService = r.inService :=
  withReported_inService ..

@[simp] theorem XfRec.rederived_levels (e : XfEntry) (r : XfRec) : (r.rederived e).levels = r.levels :=
  withReported_levels ..

@[simp] theorem XfRec.rederived_theta (e : XfEntry) (r : XfRec) : (r.rederived e).theta = r.theta :=
  withReported_theta ..

@[simp] theorem XfRec.rederived_thermal (e : XfEntry) (r : XfRec) : (r.rederived e).thermal = r.thermal :=
  withReported_thermal ..

theorem levelChanged_xfs (t : Xf) (old new : Level) (s : State) : (levelChanged t old new s).xfs = s.xfs := by
  unfold levelChanged
  rw [levelNotice_eq]
  rfl

theorem State.xf_congr {s u : State} (h : u.xfs = s.xfs) (t : Xf) : u.xf t = s.xf t := by
  unfold State.xf
  rw [h]

theorem rederive_xf (t : Xf) (s : State) : (rederive t s).xf t = (s.xf t).rederived (s.xfEntry t) := by
  unfold rederive
  dsimp only
  split
  · next same => exact (XfRec.withReported_of_eq same).symm
  · rw [State.xf_congr (levelChanged_xfs ..), State.mapXf_eq, State.setXf_xf, if_pos rfl]
    rfl

/-! ### The steps that change a standing -/

/-- The record after one evaluation and the re-derivation that follows it (R58 to R63). -/
def XfRec.evaluated (e : XfEntry) (raised : Bool) (r : XfRec) : XfRec :=
  ({ r with levels := evaluateLevels e raised r.magnitude r.levels }).rederived e

theorem evaluate_xf (t : Xf) (s : State) :
    (evaluate t s).xf t = (s.xf t).evaluated (s.xfEntry t) s.station.state.raised := by
  unfold evaluate
  dsimp only
  rw [rederive_xf, State.mapXf_eq, State.setXf_xf, if_pos rfl]
  rfl

/-- The record after a new thermal level has been taken (R86, R87). -/
def XfRec.withThermal (e : XfEntry) (new : Level) (r : XfRec) : XfRec :=
  if new = r.thermal then r else ({ r with thermal := new }).rederived e

/-- The record after the thermal step of a second boundary (R83 to R87). -/
def XfRec.heated (e : XfEntry) (aSec : Nat) (r : XfRec) : XfRec :=
  let theta := thetaStep e.shift r.theta (min (thermalTargetRaw aSec e.coefficient) 65535)
  ({ r with theta := theta }).withThermal e (thermalLevelOf e theta r.thermal)

theorem updateTheta_xf (t : Xf) (aSec : Nat) (s : State) :
    (updateTheta t aSec s).xf t =
      { s.xf t with theta := thetaStep (s.xfEntry t).shift (s.xf t).theta
                               (min (thermalTargetRaw aSec (s.xfEntry t).coefficient) 65535) } := by
  unfold updateTheta
  dsimp only
  split
  · rw [State.mapXf_eq, State.setXf_xf, if_pos rfl, report_eq]
    rfl
  · rw [State.mapXf_eq, State.setXf_xf, if_pos rfl]

theorem updateThermalLevel_xf (t : Xf) (s : State) :
    (updateThermalLevel t s).xf t =
      (s.xf t).withThermal (s.xfEntry t) (thermalLevelOf (s.xfEntry t) (s.xf t).theta (s.xf t).thermal) := by
  unfold updateThermalLevel XfRec.withThermal
  dsimp only
  split
  · rfl
  · rw [rederive_xf, State.mapXf_eq, State.setXf_xf, if_pos rfl]
    rfl

theorem WorksOn.xfEntry {x : Xf} {s u : State} (works : WorksOn x s u) (t : Xf) : u.xfEntry t = s.xfEntry t := by
  obtain ⟨-, -, -, -, -, -, entries, -⟩ := works
  unfold State.xfEntry
  rw [entries]

theorem heat_xf (t : Xf) (aSec : Nat) (s : State) :
    (updateThermalLevel t (updateTheta t aSec s)).xf t = (s.xf t).heated (s.xfEntry t) aSec := by
  rw [updateThermalLevel_xf, (WorksOn.updateTheta (x := t) aSec s).xfEntry, updateTheta_xf]
  rfl

/-- The record after an acknowledgement (R67). -/
def XfRec.acknowledged (e : XfEntry) (r : XfRec) : XfRec :=
  if r.alarming then ({ r with unack := false }).rederived e else r

theorem acknowledgeFlag_xf (t : Xf) (s : State) : (acknowledgeFlag t s).xf t = (s.xf t).acknowledged (s.xfEntry t) := by
  unfold acknowledgeFlag XfRec.acknowledged
  split
  · show (rederive t _).xf t = _
    rw [rederive_xf, State.mapXf_eq, State.setXf_xf, if_pos rfl]
    rfl
  · rfl

@[simp] theorem XfRec.evaluated_inService (e : XfEntry) (raised : Bool) (r : XfRec) :
    (r.evaluated e raised).inService = r.inService := rederived_inService ..

@[simp] theorem XfRec.heated_inService (e : XfEntry) (aSec : Nat) (r : XfRec) :
    (r.heated e aSec).inService = r.inService := by
  unfold heated withThermal
  dsimp only
  split_ifs
  · rfl
  · exact rederived_inService ..

@[simp] theorem XfRec.acknowledged_inService (e : XfEntry) (r : XfRec) : (r.acknowledged e).inService = r.inService := by
  unfold acknowledged
  split_ifs
  · exact rederived_inService ..
  · rfl

/-! ### The induction -/

/-- A property that the steps of the blocks keep, each where the blocks take it: evaluations and thermal steps come to
transformers in service alone, and thermal steps to those with a coefficient. -/
structure KeptByWork (P : State → Prop) : Prop where
  beside : ∀ {s u : State}, s.SameBlocks u → P s → P u
  setChannel : ∀ {s} c r, P s → P (s.setChannel c r)
  setXf : ∀ {s} t r, (s.xf t).SameStanding r → P s → P (s.setXf t r)
  evaluate : ∀ {s} t, (s.xf t).inService = true → P s → P (evaluate t s)
  heat : ∀ {s} t a, (s.xf t).inService = true → (s.xfEntry t).coefficient ≠ 0 → P s →
    P (updateThermalLevel t (updateTheta t a s))
  rateNotice : ∀ {s} c k r, P s → P (rateNotice c k r s)
  withdrawalNotice : ∀ {s} c, P s → P (withdrawalNotice c s)
  holdExpires : ∀ {s}, P s → P (holdExpires s)
  runTimers : ∀ {s} n, P s → P (runTimers n s)
  acknowledgeFlag : ∀ {s} t, P s → P (acknowledgeFlag t s)

/-- `P` holds and transformer `t` is in service. -/
def InServiceAnd (P : State → Prop) (t : Xf) (s : State) : Prop := P s ∧ (s.xf t).inService = true

namespace KeptByWork

variable {P : State → Prop} (h : KeptByWork P) {s : State}
include h

theorem report (b : BankId) (code : ErrorCode) (x : Byte) (hs : P s) : P (report b code x s) :=
  h.beside (.report b code x s) hs

theorem mapChannel (c : Channel) (f : ChannelRec → ChannelRec) (hs : P s) : P (s.mapChannel c f) := h.setChannel _ _ hs

/-! ### Work on a transformer in service -/

section Evaluator
variable {t : Xf} (hs : InServiceAnd P t s)
include hs

theorem onBeside {u : State} (same : s.SameBlocks u) : InServiceAnd P t u :=
  ⟨h.beside same hs.1, by obtain ⟨-, -, -, -, -, xfs, -⟩ := same; rw [State.xf_congr xfs]; exact hs.2⟩

theorem onReport (b : BankId) (code : ErrorCode) (x : Byte) : InServiceAnd P t (Machine.report b code x s) :=
  h.onBeside hs (.report b code x s)

theorem onMapXf (f : XfRec → XfRec) (hf : (s.xf t).SameStanding (f (s.xf t)) := by exact ⟨rfl, rfl, rfl, rfl, rfl, rfl⟩) :
    InServiceAnd P t (s.mapXf t f) :=
  ⟨h.setXf t _ hf hs.1, by rw [State.mapXf_eq, State.setXf_xf, if_pos rfl, hf.inService]; exact hs.2⟩

theorem onEvaluate : InServiceAnd P t (Machine.evaluate t s) :=
  ⟨h.evaluate t hs.2 hs.1, by rw [evaluate_xf, XfRec.evaluated_inService]; exact hs.2⟩

theorem onCaptureSecond (a : Nat) : InServiceAnd P t (captureSecond t a s) := by
  unfold captureSecond
  split
  · exact h.onBeside hs (.refl s)
  · exact hs

theorem onThermalBoundary (n : Nat) : InServiceAnd P t (thermalBoundary t n s) := by
  unfold thermalBoundary
  dsimp only
  split
  · exact h.onCaptureSecond hs _
  · next warm =>
    refine h.onCaptureSecond ⟨h.heat t _ hs.2 warm hs.1, ?_⟩ _
    rw [heat_xf, XfRec.heated_inService]
    exact hs.2

theorem onCombine : InServiceAnd P t (combine t s) := by
  unfold combine
  dsimp only
  split
  · exact h.onMapXf hs _
  · exact h.onMapXf (h.onReport hs _ _ _) _

theorem onCountSecond : InServiceAnd P t (countSecond t s) := by
  unfold countSecond
  dsimp only
  split
  · exact h.onThermalBoundary (h.onMapXf hs _) _
  · exact h.onMapXf hs _

theorem onComplete : InServiceAnd P t (complete t s) := by
  have judged : InServiceAnd P t (judgeQuality t (combine t s)) := by
    unfold judgeQuality
    exact h.onMapXf (h.onCombine hs) _
  have closed : InServiceAnd P t (closeAssembly t (judgeQuality t (combine t s))) := h.onMapXf judged _
  exact h.onCountSecond (h.onEvaluate closed)

theorem onCompleteIfMarked : InServiceAnd P t (completeIfMarked t s) := by
  unfold completeIfMarked
  split
  · exact h.onComplete hs
  · exact hs

theorem onOpenAssembly (j : Slot) (c : Cycle) : InServiceAnd P t (openAssembly t j c s) :=
  h.onCompleteIfMarked (h.onMapXf hs _)

theorem onReportLateMembers : InServiceAnd P t (reportLateMembers t s) := by
  unfold reportLateMembers
  generalize s.xf t = r
  refine KeptByCommands.foldl (P := InServiceAnd P t) _ (fun u i hu => ?_) _ hs
  unfold reportLate
  split
  · exact h.onReport hu _ _ _
  · exact hu

theorem onAssemblyArrival (j : Slot) (c : Cycle) : InServiceAnd P t (assemblyArrival t j c s) := by
  unfold assemblyArrival
  split
  · split
    · exact h.onCompleteIfMarked (h.onMapXf hs _)
    split
    · exact h.onOpenAssembly (h.onComplete (h.onReportLateMembers hs)) _ _
    · exact h.onReport hs _ _ _
  · split
    · split
      · exact h.onReport hs _ _ _
      · exact h.onOpenAssembly hs _ _
    · exact h.onOpenAssembly hs _ _

theorem onNoticeQuality : InServiceAnd P t (noticeQuality t s) := by
  unfold noticeQuality
  split
  · exact h.onMapXf hs _
  split
  · exact h.onMapXf hs _
  · exact hs

theorem onAfterShrinkage : InServiceAnd P t (afterShrinkage t s) := by
  unfold afterShrinkage
  split
  · exact h.onReport (h.onMapXf hs _) _ _ _
  split
  · exact h.onCompleteIfMarked hs
  · exact hs

theorem onMemberNotice (j : Slot) (live : Bool) : InServiceAnd P t (memberNotice t j live s) := by
  unfold memberNotice
  dsimp only
  split
  · exact h.onAfterShrinkage (h.onNoticeQuality (h.onMapXf hs _))
  · exact h.onNoticeQuality (h.onMapXf hs _)

end Evaluator

theorem blockArrival (ch : Channel) (c : Cycle) (hs : P s) : P (blockArrival ch c s) := by
  unfold Machine.blockArrival
  split
  · exact hs
  · split
    · next on => exact (h.onAssemblyArrival ⟨hs, on⟩ _ _).1
    · exact hs

theorem channelNotice (ch : Channel) (hs : P s) : P (channelNotice ch s) := by
  unfold Machine.channelNotice
  split
  · exact hs
  · split
    · next on => exact (h.onMemberNotice ⟨hs, on⟩ _ _).1
    · exact hs

/-! ### Conditioning -/

theorem changeChannelState (ch : Channel) (new : ChannelState) (hs : P s) : P (changeChannelState ch new s) :=
  h.channelNotice ch (h.beside (.refl (s.mapChannel ch fun r => { r with state := new })) (h.mapChannel ch _ hs))

theorem clearSecond (ch : Channel) (hs : P s) : P (clearSecond ch s) := by
  unfold Machine.clearSecond
  split
  · exact h.withdrawalNotice _ (h.mapChannel _ _ hs)
  · exact hs

theorem reseed (ch : Channel) (hs : P s) : P (reseed ch s) := h.clearSecond _ (h.mapChannel _ _ hs)

theorem settleAgain (ch : Channel) (hs : P s) : P (settleAgain ch s) := by
  unfold Machine.settleAgain
  split
  · exact h.reseed _ hs
  · exact h.changeChannelState _ _ (h.mapChannel _ _ (h.reseed _ hs))

theorem formRate (ch : Channel) (a b : Int) (hs : P s) : P (formRate ch a b s) := by
  unfold Machine.formRate
  dsimp only
  split
  · exact h.rateNotice _ _ _ (h.mapChannel _ _ hs)
  · exact h.rateNotice _ _ _ (h.mapChannel _ _ (h.report _ _ _ hs))

theorem fieldOutput (ch : Channel) (hs : P s) : P (fieldOutput ch s) := by
  unfold Machine.fieldOutput perSecondAdd fieldBoundary
  dsimp only
  split
  · split
    · split
      · exact h.mapChannel _ _ hs
      · exact h.formRate _ _ _ (h.mapChannel _ _ hs)
    · exact h.mapChannel _ _ hs
  · exact hs

theorem stageMean (ch : Channel) (samples : List Int) (hs : P s) : P (stageMean ch samples s) := by
  unfold Machine.stageMean
  split
  · exact h.report _ _ _ (h.mapChannel _ _ hs)
  split
  · exact h.report _ _ _ (h.mapChannel _ _ hs)
  · exact h.mapChannel _ _ hs

theorem stageScale (ch : Channel) (hs : P s) : P (stageScale ch s) := by
  unfold Machine.stageScale
  dsimp only
  split
  · exact h.mapChannel _ _ hs
  · exact h.mapChannel _ _ (h.report _ _ _ hs)

theorem stageFilter (ch : Channel) (first : Bool) (hs : P s) : P (stageFilter ch first s) := by
  unfold Machine.stageFilter
  exact h.mapChannel _ _ hs

theorem gapCycles (ch : Channel) (n : Nat) (hs : P s) : P (gapCycles ch n s) := by
  induction n generalizing s with
  | zero => exact hs
  | succ n ih => exact ih (h.fieldOutput _ (h.stageScale _ (h.stageFilter _ _ hs)))

theorem countStep (ch : Channel) (first bad : Bool) (hs : P s) : P (countStep ch first bad s) := by
  have counted : P (s.mapChannel ch (ChannelRec.counted bad)) := h.mapChannel _ _ hs
  unfold Machine.countStep settleStep
  dsimp only
  split
  · split
    · split
      · exact h.changeChannelState _ _ (h.mapChannel _ _ (h.mapChannel _ _ counted))
      · exact h.mapChannel _ _ counted
    · exact counted
  · split
    · exact h.changeChannelState _ _ (h.mapChannel _ _ counted)
    · exact counted
  · split
    · exact h.changeChannelState _ _ (h.mapChannel _ _ counted)
    · exact counted
  all_goals exact counted

theorem handOn (ch : Channel) (c : Cycle) (hs : P s) : P (handOn ch c s) := by
  unfold Machine.handOn
  split
  · exact h.blockArrival _ _ hs
  · exact h.fieldOutput _ hs

theorem acceptInput (ch : Channel) (c : Cycle) (hs : P s) : P (acceptInput ch c s) := by
  unfold Machine.acceptInput
  exact h.mapChannel _ _ hs

theorem processInput (ch : Channel) (first : Bool) (n : Nat) (c : Cycle) (samples : List Int) (hs : P s) :
    P (processInput ch first n c samples s) :=
  h.handOn _ _ (h.countStep _ _ _ (h.stageScale _ (h.stageFilter _ _ (h.stageMean _ _ (h.gapCycles _ _ hs)))))

theorem staleReturn (ch : Channel) (hs : P s) : P (staleReturn ch s) := by
  unfold Machine.staleReturn
  dsimp only
  split
  · exact h.changeChannelState _ _ (h.mapChannel _ _ hs)
  · exact hs

theorem judgedInput (ch : Channel) (c : Cycle) (samples : List Int) (hs : P s) : P (judgedInput ch c samples s) := by
  unfold Machine.judgedInput
  split
  · exact h.processInput _ _ _ _ _ (h.acceptInput _ _ hs)
  · exact h.processInput _ _ _ _ _ (h.acceptInput _ _ (h.staleReturn _ hs))
  · exact h.report _ _ _ hs
  · exact h.processInput _ _ _ _ _ (h.acceptInput _ _ (h.settleAgain _ (h.report _ _ _ hs)))

theorem takeInput (ch : Channel) (c : Cycle) (samples : List Int) (hs : P s) : P (takeInput ch c samples s) := by
  unfold Machine.takeInput
  split
  · exact hs
  · exact h.processInput _ _ _ _ _ (h.acceptInput _ _ (h.settleAgain _ hs))
  all_goals exact h.judgedInput _ _ _ hs

theorem examineBlock (body : List Byte) (hs : P s) : P (examineBlock body s) := by
  unfold Machine.examineBlock
  split
  · split
    · refine KeptByCommands.foldl (P := P) _ (fun u i hu => ?_) _ hs
      unfold takeBlockInput
      split
      · exact hu
      · exact h.takeInput _ _ _ hu
    · exact h.report _ _ _ hs
  · exact hs

theorem staleExpires (ch : Channel) (hs : P s) : P (staleExpires ch s) := by
  unfold Machine.staleExpires
  split
  · exact h.changeChannelState _ _ (h.mapChannel _ _ hs)
  · exact hs

theorem lostExpires (ch : Channel) (hs : P s) : P (lostExpires ch s) := by
  unfold Machine.lostExpires
  split
  · exact h.changeChannelState _ _ (h.report _ _ _ (h.clearSecond _ (h.mapChannel _ _ hs)))
  · exact hs

theorem placeChannel (ch : Channel) (hs : P s) : P (placeChannel ch s) := h.settleAgain _ (h.mapChannel _ _ hs)

theorem removeChannel (ch : Channel) (hs : P s) : P (removeChannel ch s) :=
  h.changeChannelState _ _ (h.mapChannel _ _ (h.clearSecond _ hs))

/-! ### The events, and the writes of channels -/

theorem events : KeptByEvents P where
  beside := h.beside
  examineBlock body := h.examineBlock body
  staleExpires := h.staleExpires
  lostExpires := h.lostExpires
  holdExpires := h.holdExpires
  runTimers := h.runTimers
  acknowledgeFlag := h.acknowledgeFlag

/-- The service change of a channel: its entry's in-service field, then the placing or the removal (R11, R12). -/
theorem serviceChange (entry : ∀ {u} c e, P u → P (u.setChannelEntry c e)) (c : Channel) (e : ChannelEntry) (hs : P s) :
    P (takeWritten (.channelService c e) s) := by
  unfold takeWritten
  dsimp only
  split
  · exact h.placeChannel c (entry c _ hs)
  · exact h.removeChannel c (entry c _ hs)

end KeptByWork

end Sys2Proof.Machine

/-! PROOF. Laws of each transformer by itself: where the work, the writes, the restore and the starts lead from. -/

namespace Sys2Proof.Machine

/-! ### Placing, removal and taking up, record by record -/

/-- The record that a placing in service gives, with the wait set `w` (R47, R51, R52). -/
def XfRec.placed (theta : Nat) (thermal : Level) (w : SlotSet) : XfRec :=
  { XfRec.offWith theta thermal with inService := true, waitSet := w }

/-- The record with Θ and T at 0 where the coefficient is 0 (R80). -/
def XfRec.idled (e : XfEntry) (r : XfRec) : XfRec :=
  if e.coefficient = 0 then { r with theta := 0, thermal := .quiet } else r

/-- The record after the restore-completion event (R51, R52). -/
def XfRec.takenUp (e : XfEntry) (w : SlotSet) (r : XfRec) : XfRec :=
  if e.inService then (XfRec.placed (r.idled e).theta (r.idled e).thermal w).rederived e else r.idled e

theorem zeroIdleThermal_eq (t : Xf) (s : State) : zeroIdleThermal t s = s.setXf t ((s.xf t).idled (s.xfEntry t)) := by
  unfold zeroIdleThermal XfRec.idled
  split
  · rfl
  · exact (State.setXf_self s t).symm

theorem takeUpXf_eq (t : Xf) (s : State) :
    takeUpXf t s = { s with xfs := s.xfs.set t ((s.xf t).takenUp (s.xfEntry t) (waitSetOf t s))
                            alarmOut := (takeUpXf t s).alarmOut } := by
  unfold takeUpXf XfRec.takenUp
  dsimp only
  rw [zeroIdleThermal_eq]
  split
  · simp only [State.setXf_xf, if_pos, State.setXf_xfEntry] at *
    rw [if_pos ‹_›, refreshAlarmOut, State.setXf_setXf]
    rfl
  · simp only [State.setXf_xfEntry] at *
    rw [if_neg ‹_›]
    rfl

theorem placeXf_xf (t : Xf) (s : State) (o : Xf) :
    (placeXf t s).xf o = if t = o then XfRec.placed 0 .quiet (waitSetOf t s) else s.xf o := by
  unfold placeXf
  rw [levelNotice_eq]
  exact State.setXf_xf ..

theorem placeXf_around (t : Xf) (s : State) :
    (placeXf t s).phase = s.phase ∧ (placeXf t s).write = s.write ∧ ∀ o, (placeXf t s).xfEntry o = s.xfEntry o := by
  unfold placeXf
  rw [levelNotice_eq]
  exact ⟨rfl, rfl, fun _ => rfl⟩

theorem removeXf_around (t : Xf) (s : State) :
    (removeXf t s).phase = s.phase ∧ (removeXf t s).write = s.write ∧ ∀ o, (removeXf t s).xfEntry o = s.xfEntry o := by
  unfold removeXf
  rw [levelNotice_eq]
  exact ⟨rfl, rfl, fun _ => rfl⟩

theorem removeXf_xf (t : Xf) (s : State) (o : Xf) :
    (removeXf t s).xf o = if t = o then XfRec.offWith (s.xf t).theta (s.xf t).thermal else s.xf o := by
  unfold removeXf
  rw [levelNotice_eq]
  exact State.setXf_xf ..

/-- The taking up of the transformers `ts` touches their records and ALARM OUT alone, each by its entry and the present
states of its members. -/
theorem foldl_takeUpXf (ts : List Xf) (hts : ts.Nodup) (s : State) :
    let u := ts.foldl (fun s t => takeUpXf t s) s
    u = { s with xfs := u.xfs, alarmOut := u.alarmOut } ∧
    ∀ o, u.xf o = if o ∈ ts then (s.xf o).takenUp (s.xfEntry o) (waitSetOf o s) else s.xf o := by
  induction ts generalizing s with
  | nil => exact ⟨rfl, fun o => by simp⟩
  | cons t ts ih =>
    obtain ⟨new, nodup⟩ := List.nodup_cons.1 hts
    obtain ⟨same, xfs⟩ := ih nodup (takeUpXf t s)
    have first := takeUpXf_eq t s
    rw [List.foldl_cons]
    dsimp only at same xfs ⊢
    generalize ts.foldl (fun s t => takeUpXf t s) (takeUpXf t s) = u at same xfs
    generalize takeUpXf t s = v at first same xfs
    rw [first] at same
    refine ⟨same, fun o => ?_⟩
    have xf : v.xf o = if t = o then (s.xf t).takenUp (s.xfEntry t) (waitSetOf t s) else s.xf o := by
      rw [first]
      exact State.setXf_xf ..
    have entry : v.xfEntry o = s.xfEntry o := by rw [first]; rfl
    have waitSet : waitSetOf o v = waitSetOf o s := by rw [first]; rfl
    rw [xfs, xf, entry, waitSet]
    by_cases at' : t = o
    · subst at'
      simp [new]
    · simp [at', Ne.symm at']

/-! ### Laws of each transformer -/

/-- A law of the phase, the store write in progress, and each transformer's entry and record. -/
def State.EachXf (L : Phase → Option StoreWrite → Xf → XfEntry → XfRec → Prop) (s : State) : Prop :=
  ∀ t, L s.phase s.write t (s.xfEntry t) (s.xf t)

/-- What the work of the blocks may do to a record keeps the law. -/
structure KeptByRecords (L : Phase → Option StoreWrite → Xf → XfEntry → XfRec → Prop) : Prop where
  standing : ∀ {ph w t e q r}, q.SameStanding r → L ph w t e q → L ph w t e r
  evaluated : ∀ {ph w t e r} raised, r.inService = true → L ph w t e r → L ph w t e (r.evaluated e raised)
  heated : ∀ {ph w t e r} a, r.inService = true → e.coefficient ≠ 0 → L ph w t e r → L ph w t e (r.heated e a)
  acknowledged : ∀ {ph w t e r}, r.inService = true → L ph w t e r → L ph w t e (r.acknowledged e)

namespace State.EachXf

variable {L : Phase → Option StoreWrite → Xf → XfEntry → XfRec → Prop} {s u : State}

theorem same (law : s.EachXf L) (phase : u.phase = s.phase) (write : u.write = s.write) (xfs : u.xfs = s.xfs)
    (entries : u.xfEntries = s.xfEntries) : u.EachXf L := by
  unfold EachXf State.xfEntry State.xf
  rw [phase, write, xfs, entries]
  exact law

/-- Work on one transformer, by what it makes of that one's record. -/
theorem worksOn {x : Xf} (law : s.EachXf L) (works : WorksOn x s u)
    (at' : L s.phase s.write x (s.xfEntry x) (s.xf x) → L s.phase s.write x (s.xfEntry x) (u.xf x)) : u.EachXf L := by
  have entry := works.xfEntry
  obtain ⟨-, others, phase, -, -, -, -, -, -, -, -, write, -⟩ := works
  intro t
  rw [phase, write, entry]
  by_cases same : t = x
  · subst same
    exact at' (law t)
  · rw [others t same]
    exact law t

/-- A service change or an entry write at one transformer, by its new entry and record. -/
theorem replaced {x : Xf} {e : XfEntry} {r : XfRec} (law : s.EachXf L) (phase : u.phase = s.phase)
    (write : u.write = s.write) (entry : ∀ t, u.xfEntry t = if x = t then e else s.xfEntry t)
    (xf : ∀ t, u.xf t = if x = t then r else s.xf t) (at' : L s.phase s.write x e r) : u.EachXf L := by
  intro t
  rw [phase, write, entry, xf]
  split_ifs with same
  · exact same ▸ at'
  · exact law t

end State.EachXf

theorem KeptByRecords.work {L : Phase → Option StoreWrite → Xf → XfEntry → XfRec → Prop} (h : KeptByRecords L) :
    KeptByWork (State.EachXf L) where
  beside := fun ⟨phase, _, _, entries, _, xfs, _, _, write, _⟩ law => law.same phase write xfs entries
  setChannel _ _ law := law.same rfl rfl rfl rfl
  setXf {s} t r standing law := law.worksOn (WorksOn.setXf s r) fun at' => by
    rw [State.setXf_xf_same]
    exact h.standing standing at'
  evaluate {s} t on law := law.worksOn (WorksOn.evaluate s) fun at' => by
    rw [evaluate_xf]
    exact h.evaluated _ on at'
  heat {s} t a on warm law := law.worksOn ((WorksOn.updateTheta a s).trans (.updateThermalLevel _)) fun at' => by
    rw [heat_xf]
    exact h.heated a on warm at'
  rateNotice c k r law := by rw [rateNotice_eq]; exact law.same rfl rfl rfl rfl
  withdrawalNotice c law := law.same rfl rfl rfl rfl
  holdExpires {s} law := by
    unfold holdExpires
    split
    · split
      · exact law
      · rw [enterStation_eq]; exact law.same rfl rfl rfl rfl
      · rw [enterStation_eq]; exact law.same rfl rfl rfl rfl
    · exact law
  runTimers n law := law.same rfl rfl rfl rfl
  acknowledgeFlag {s} t law := by
    cases alarming : (s.xf t).alarming with
    | false =>
      unfold acknowledgeFlag
      rw [if_neg (by simp [alarming])]
      exact law
    | true =>
      have on : (s.xf t).inService = true := by
        rw [XfRec.alarming, Bool.and_eq_true] at alarming
        exact alarming.1
      refine law.worksOn (WorksOn.acknowledgeFlag s) fun at' => ?_
      rw [acknowledgeFlag_xf]
      exact h.acknowledged on at'

/-- A completed write, by what it makes of its transformer; a write of another record makes nothing of any. -/
theorem KeptByRecords.takeWritten {L : Phase → Option StoreWrite → Xf → XfEntry → XfRec → Prop} (h : KeptByRecords L)
    {s : State} (law : s.EachXf L) (w : StoreWrite)
    (entry : ∀ t e, w = .xfEntry t e → L s.phase s.write t e ((s.xf t).idled e))
    (placing : ∀ t e v, w = .xfService t e → e.inService = true →
      L s.phase s.write t { s.xfEntry t with inService := true } (XfRec.placed 0 .quiet v))
    (removal : ∀ t e, w = .xfService t e → e.inService = false →
      L s.phase s.write t { s.xfEntry t with inService := false } (XfRec.offWith (s.xf t).theta (s.xf t).thermal)) :
    (takeWritten w s).EachXf L := by
  cases w
  case setup e =>
    unfold Machine.takeWritten
    dsimp only
    rw [formQuorum_eq]
    exact law.same rfl rfl rfl rfl
  case guardSpan e => exact law.same rfl rfl rfl rfl
  case channelEntry c e => exact law.same rfl rfl rfl rfl
  case channelService c e => exact h.work.serviceChange (fun c e law => law.same rfl rfl rfl rfl) c e law
  case xfEntry t e =>
    unfold Machine.takeWritten
    dsimp only
    rw [zeroIdleThermal_eq]
    refine law.replaced (x := t) (e := e) (r := (s.xf t).idled e) rfl rfl (State.setXfEntry_xfEntry s t · e) (fun o => ?_)
      (entry t e rfl)
    rw [State.setXf_xf]
    have same : (rebuildMemberMap (s.setXfEntry t e)).xfEntry t = e := (State.setXfEntry_xfEntry s t t e).trans (if_pos rfl)
    rw [same]
    rfl
  case xfService t e =>
    unfold Machine.takeWritten
    dsimp only
    split
    · next on =>
      have entry : ∀ o, (placeXf t (s.setXfEntry t { s.xfEntry t with inService := true })).xfEntry o = _ := fun o =>
        ((placeXf_around t _).2.2 o).trans (State.setXfEntry_xfEntry ..)
      exact law.replaced (placeXf_around t _).1 (placeXf_around t _).2.1 entry (placeXf_xf t _) (placing t e _ rfl on)
    · next off =>
      have entry : ∀ o, (removeXf t (s.setXfEntry t { s.xfEntry t with inService := false })).xfEntry o = _ := fun o =>
        ((removeXf_around t _).2.2 o).trans (State.setXfEntry_xfEntry ..)
      exact law.replaced (removeXf_around t _).1 (removeXf_around t _).2.1 entry (removeXf_xf t _)
        (removal t e rfl (by simpa using off))

/-- The restore completion, by what the taking up makes of each transformer. -/
theorem restoreCompletes_eachXf {L : Phase → Option StoreWrite → Xf → XfEntry → XfRec → Prop} {s : State}
    (restoring : s.phase = .restoring)
    (takenUp : ∀ t v, L .running s.write t (s.xfEntry t) ((s.xf t).takenUp (s.xfEntry t) v)) :
    (restoreCompletes s).EachXf L := by
  refine restoreCompletes_leads (Q := State.EachXf L)
    (P := fun u => u.phase = .running ∧ u.write = s.write ∧ u.xfs = s.xfs ∧ u.xfEntries = s.xfEntries) restoring
    ⟨rfl, rfl, rfl, rfl⟩ (fun {u} c same => ?_) (fun _ => id) (fun {u} same t => ?_) (fun {u} law => ?_)
  · unfold takeUpChannel
    split <;> exact same
  · obtain ⟨phase, write, xfs, entries⟩ := same
    obtain ⟨eq, xf⟩ := foldl_takeUpXf (List.finRange 16) (List.nodup_finRange 16) u
    generalize (List.finRange 16).foldl (fun s t => takeUpXf t s) u = v at eq xf
    have entry : v.xfEntry t = s.xfEntry t := by
      rw [eq]
      show u.xfEntries[t] = s.xfEntries[t]
      rw [entries]
    have record : u.xf t = s.xf t := State.xf_congr xfs t
    have entry' : u.xfEntry t = s.xfEntry t := congrArg (fun es => es[t]) entries
    rw [xf, if_pos (List.mem_finRange t), entry, entry', record, eq]
    rw [phase, write]
    exact takenUp t _
  · unfold stationTakeUp
    rw [formQuorum_eq]
    exact law.same rfl rfl rfl rfl

end Sys2Proof.Machine

/-! PROOF. The laws that hold transformer by transformer: service (R30, R47, R48), the reported level (R63 to R65), the
rise and fall runs (R57) and the thermal state (R80, R84). -/

namespace Sys2Proof.Machine

/-! ### Service -/

/-- What a store write in progress supposes of one transformer. -/
def StoreWrite.SupposesOf (t : Xf) (r : XfRec) : StoreWrite → Prop
  | .setup _ => True
  | .guardSpan _ => True
  | .channelEntry _ _ => True
  | .channelService _ _ => True
  | .xfEntry x _ => x = t → r.inService = false
  | .xfService x e => x = t → r.inService = !e.inService

theorem StoreWrite.supposes_iff (w : StoreWrite) (s : State) : w.Supposes s ↔ ∀ t, w.SupposesOf t (s.xf t) := by
  cases w <;> simp [Supposes, SupposesOf]

theorem StoreWrite.SupposesOf.congr {w : StoreWrite} {t : Xf} {q r : XfRec} (h : w.SupposesOf t q)
    (same : r.inService = q.inService) : w.SupposesOf t r := by
  cases w
  case xfEntry => exact fun at' => same.trans (h at')
  case xfService => exact fun at' => same.trans (h at')
  all_goals exact trivial

/-- The law of service, at one transformer. -/
def ServiceOf (ph : Phase) (w : Option StoreWrite) (t : Xf) (_ : XfEntry) (r : XfRec) : Prop :=
  (ph ≠ .running → w = none ∧ r.inService = false) ∧ ∀ v, w = some v → v.SupposesOf t r

theorem State.serviceLaw_iff (s : State) : s.ServiceLaw ↔ s.EachXf ServiceOf := by
  refine ⟨fun ⟨stopped, supposes⟩ t => ⟨fun h => ⟨(stopped h).1, (stopped h).2 t⟩, fun v hv => ?_⟩,
    fun law => ⟨fun h => ⟨((law 0).1 h).1, fun t => ((law t).1 h).2⟩, fun v hv => ?_⟩⟩
  · exact (v.supposes_iff s).1 (supposes v hv) t
  · exact (v.supposes_iff s).2 fun t => (law t).2 v hv

theorem serviceOf_keptByRecords : KeptByRecords ServiceOf := by
  have same : ∀ {ph w t e q r}, r.inService = q.inService → ServiceOf ph w t e q → ServiceOf ph w t e r :=
    fun h ⟨stopped, supposes⟩ => ⟨fun ph => ⟨(stopped ph).1, h.trans (stopped ph).2⟩, fun v hv => (supposes v hv).congr h⟩
  exact {
    standing := fun standing => same standing.inService
    evaluated := fun _ _ => same (XfRec.evaluated_inService ..)
    heated := fun _ _ _ => same (XfRec.heated_inService ..)
    acknowledged := fun _ => same (XfRec.acknowledged_inService ..) }

theorem State.ServiceLaw.running_of_write {s : State} (law : s.ServiceLaw) {w : StoreWrite} (write : s.write = some w) :
    s.phase = .running := by
  by_contra stopped
  cases write.symm.trans (law.1 stopped).1

/-- A write in progress holds the response slot PENDING, so port B sends no response. -/
theorem State.SlotLaw.write_none_of_sends {s : State} (law : s.SlotLaw) (sends : s.frames.sendsResponse = true) :
    s.write = none := by
  have sending := law.1.portB.2.2.2 sends
  simpa [sending, ResponseSlot.isPending] using law.2.1

theorem exec_serviceLaw {s t : State} {i : Instr} (slots : s.SlotLaw) (law : s.ServiceLaw) (executed : exec i s = .next t) :
    t.ServiceLaw := by
  refine (State.serviceLaw_iff t).2 (serviceOf_keptByRecords.work.events.exec ((State.serviceLaw_iff s).1 law)
    (fun w running supposes => (State.serviceLaw_iff _).1 ⟨fun h => absurd running h, fun v hv => ?_⟩) (fun w write => ?_)
    (fun restoring => restoreCompletes_eachXf restoring fun t v => ⟨fun h => absurd rfl h, fun v hv => ?_⟩)
    (fun u starts t => ⟨fun _ => ⟨?_, ?_⟩, fun v hv => ?_⟩) executed)
  · cases hv
    cases w <;> exact supposes
  · have running : (finishWrite w s).phase = .running := law.running_of_write write
    refine serviceOf_keptByRecords.takeWritten (s := finishWrite w s) (fun t => ⟨fun h => absurd running h, nofun⟩) w ?_ ?_ ?_
    all_goals intros; exact ⟨fun h => absurd running h, nofun⟩
  · cases hv.symm.trans (law.1 (by simp [restoring])).1
  · obtain none | ⟨sends, same⟩ := starts.write
    · exact none
    · exact same.trans (slots.write_none_of_sends sends)
  · obtain off | off := starts.xfs t <;> rw [off] <;> rfl
  · obtain none | ⟨sends, same⟩ := starts.write
    · cases hv.symm.trans none
    · cases (hv.symm.trans same).trans (slots.write_none_of_sends sends)

theorem serviceLaw_tick {s : State} (law : s.ServiceLaw) : (tick s).ServiceLaw :=
  (State.serviceLaw_iff _).2 (((State.serviceLaw_iff s).1 law).same rfl rfl rfl rfl)

theorem serviceLaw_pending {s : State} (law : s.ServiceLaw) (p : List Instr) : ({ s with pending := p } : State).ServiceLaw :=
  (State.serviceLaw_iff _).2 (((State.serviceLaw_iff s).1 law).same rfl rfl rfl rfl)

/-- The step of a law that supposes the law of slots and the law of service. -/
theorem step_keeps_served {P : State → Prop} (pending : ∀ u p, P u → P { u with pending := p })
    (tick : ∀ u, P u → P (tick u))
    (exec : ∀ {i u v}, u.SlotLaw → u.ServiceLaw → P u → exec i u = .next v → P v) {s t : State} (slots : s.SlotLaw)
    (service : s.ServiceLaw) (hs : P s) (ht : step s = .next t) : P t :=
  (step_keeps (P := fun u => u.SlotLaw ∧ u.ServiceLaw ∧ P u)
    (fun u p ⟨slots, service, hu⟩ => ⟨slots, serviceLaw_pending service p, pending u p hu⟩)
    (fun u ⟨slots, service, hu⟩ => ⟨slots, serviceLaw_tick service, tick u hu⟩)
    (fun _ _ _ ⟨slots, service, hu⟩ executed =>
      ⟨exec_slotLaw slots executed, exec_serviceLaw slots service executed, exec slots service hu executed⟩)
    ⟨slots, service, hs⟩ ht).2.2

/-- Settles O10: no work of the blocks changes a transformer's service, so the law is kept where the writes begin and
end and where the part starts; the law of slots shuts a write out of a warm restart. -/
theorem serviceStaysSound : Obligations.ServiceStaysSound := fun _ _ slots law stepped =>
  step_keeps_served (P := State.ServiceLaw) (fun _ p law => serviceLaw_pending law p) (fun _ law => serviceLaw_tick law)
    (fun slots _ law executed => exec_serviceLaw slots law executed) slots law law stepped

/-! ### Commands, for a law of each transformer -/

/-- A law of each transformer that does not look at the phase or the write is kept by every command, if the records keep
it, at the completed writes of an OFF transformer's entry and of a service change, and where a transformer is taken up
or starts. -/
theorem exec_eachXf {L : Xf → XfEntry → XfRec → Prop} (records : KeptByRecords fun _ _ => L) {s t : State} {i : Instr}
    (law : s.EachXf fun _ _ => L) (service : s.ServiceLaw)
    (entry : ∀ t e, (s.xf t).inService = false → L t e ((s.xf t).idled e))
    (placing : ∀ t e v, L t e (XfRec.placed 0 .quiet v))
    (off : ∀ t e theta thermal, L t e (XfRec.offWith theta thermal))
    (takenUp : ∀ t e v, (s.xf t).inService = false → L t e ((s.xf t).takenUp e v))
    (executed : exec i s = .next t) : t.EachXf fun _ _ => L := by
  refine records.work.events.exec law (fun w _ _ => law) (fun w write => ?_)
    (fun restoring => restoreCompletes_eachXf restoring fun t v => takenUp t _ v ?_) (fun u starts t => ?_) executed
  · refine records.takeWritten (s := finishWrite w s) law w (fun t e is => entry t e ?_) (fun t e v _ _ => placing t _ v)
      (fun t e _ _ => off t _ _ _)
    subst is
    exact service.2 _ write
  · exact (service.1 (by simp [restoring])).2 t
  · obtain h | h := starts.xfs t
    · rw [h]; exact off t _ _ _
    · rw [h]; exact off t _ _ _

/-! ### The reported level (R63 to R65) -/

/-- The law of the reported level, at one transformer with the latch `latch`. -/
def XfRec.LevelOf (latch : Bool) (r : XfRec) : Prop :=
  (r.unack = true → r.reported = .alarm) ∧
  (r.reported ≠ Level.higher r.levels.condition r.thermal → latch = true ∧ r.unack = true)

/-- A re-derivation makes the law true wherever a set flag stands at ALARM. -/
theorem XfRec.rederived_levelOf {e : XfEntry} {r : XfRec} (flag : r.unack = true → r.reported = .alarm) :
    (r.rederived e).LevelOf e.latch := by
  unfold rederived candidateLevel
  by_cases held : e.latch = true ∧ r.unack = true
  · have reported := flag held.2
    rw [if_pos (by simp [held]), withReported_of_eq reported]
    exact ⟨flag, fun _ => held⟩
  · rw [if_neg (by simpa using held)]
    refine ⟨fun set => ?_, fun differs => absurd (by simp) differs⟩
    unfold withReported at set ⊢
    split_ifs at set ⊢ with same alarm leaves
    · exact flag set
    · exact alarm
    · have latch : e.latch = true := by simpa [flag set] using leaves
      exact absurd ⟨latch, set⟩ held

theorem levelOf_keptByRecords :
    KeptByRecords (fun _ _ _ e r => r.inService = true → r.LevelOf e.latch) where
  standing := fun ⟨on, levels, reported, unack, _, thermal⟩ law on' => by
    unfold XfRec.LevelOf
    rw [levels, reported, unack, thermal]
    exact law (on.symm.trans on')
  evaluated := fun _ on law _ => XfRec.rederived_levelOf (law on).1
  heated := fun a on _ law _ => by
    unfold XfRec.heated XfRec.withThermal
    dsimp only
    split_ifs
    · exact law on
    · exact XfRec.rederived_levelOf (law on).1
  acknowledged := fun on law _ => by
    unfold XfRec.acknowledged
    split_ifs
    · exact XfRec.rederived_levelOf nofun
    · exact law on

theorem exec_levelLaw {i : Instr} {s t : State} (service : s.ServiceLaw) (law : s.LevelLaw)
    (executed : exec i s = .next t) : t.LevelLaw :=
  exec_eachXf levelOf_keptByRecords law service
    (fun t e off on => by
      unfold XfRec.idled at on
      split_ifs at on
      · cases off.symm.trans on
      · cases off.symm.trans on)
    (fun t e v _ => ⟨nofun, fun differs => absurd rfl differs⟩)
    (fun t e theta thermal => nofun)
    (fun t e v off on => by
      unfold XfRec.takenUp at on ⊢
      split_ifs at on ⊢
      · exact XfRec.rederived_levelOf nofun
      · unfold XfRec.idled at on
        split_ifs at on
        · cases off.symm.trans on
        · cases off.symm.trans on)
    executed

/-- Settles O12: every change of L, of T and of a flag is followed by a re-derivation, which makes the law true again. -/
theorem reportedLevelsStaySound : Obligations.ReportedLevelsStaySound := fun _ _ slots service law stepped =>
  step_keeps_served (P := State.LevelLaw) (fun _ _ => id) (fun _ => id)
    (fun _ service law executed => exec_levelLaw service law executed) slots service law stepped

end Sys2Proof.Machine

/-! PROOF. The rise and fall runs (R57, R59 to R61) and the thermal state (R80, R83 to R86). -/

namespace Sys2Proof.Machine

/-! ### Runs -/

/-- The runs of a level record, against the persistence settings of an entry (R57). -/
structure LevelRec.Runs (e : XfEntry) (r : LevelRec) : Prop where
  rise : 1 ≤ e.risePersistence → r.rise < e.risePersistence
  fall : 1 ≤ e.fallPersistence → r.fall < e.fallPersistence
  single : r.rise = 0 ∨ r.fall = 0
  floorAbove : r.rise ≠ 0 → r.condition.num < r.runFloor.num
  noFloor : r.rise = 0 → r.runFloor = .quiet
  ceilingBelow : r.fall ≠ 0 → r.runCeiling.num < r.condition.num
  noCeiling : r.fall = 0 → r.runCeiling = .quiet

namespace LevelRec.Runs

variable {e : XfEntry} {r : LevelRec}

/-- A record with both counts 0 and no floor or ceiling has sound runs. -/
theorem ofNone (rise : r.rise = 0) (fall : r.fall = 0) (runFloor : r.runFloor = .quiet)
    (runCeiling : r.runCeiling = .quiet) : r.Runs e where
  rise pos := by omega
  fall pos := by omega
  single := .inl rise
  floorAbove some := absurd rise some
  noFloor _ := runFloor
  ceilingBelow some := absurd fall some
  noCeiling _ := runCeiling

/-- The pickup level, and with it the lowest of the run, is above L. -/
theorem lowest_above (runs : r.Runs e) {p : Level} (above : r.condition.num < p.num) :
    r.condition.num < (if r.rise = 0 then p else Level.lower r.runFloor p).num := by
  split_ifs with first
  · exact above
  · unfold Level.lower
    split_ifs
    · exact above
    · exact runs.floorAbove first

theorem risingStep (runs : r.Runs e) {p : Level} (above : r.condition.num < p.num) :
    (risingStep e.risePersistence p r).Runs e := by
  have lowest := runs.lowest_above above
  unfold Machine.risingStep
  dsimp only
  generalize (if r.rise = 0 then p else Level.lower r.runFloor p) = runFloor at lowest
  split
  · exact ofNone rfl rfl rfl rfl
  next more =>
    exact {
      rise := fun pos => by
        have := runs.rise pos
        dsimp only
        omega
      fall := fun pos => pos
      single := .inr rfl
      floorAbove := fun _ => lowest
      noFloor := nofun
      ceilingBelow := fun some => absurd rfl some
      noCeiling := fun _ => rfl }

/-- The hold level, and with it the highest of the run, is below L. -/
theorem highest_below (runs : r.Runs e) {h : Level} (below : h.num < r.condition.num) :
    (if r.fall = 0 then h else Level.higher r.runCeiling h).num < r.condition.num := by
  split_ifs with first
  · exact below
  · unfold Level.higher
    split_ifs
    · exact below
    · exact runs.ceilingBelow first

theorem fallingStep (runs : r.Runs e) {h : Level} (below : h.num < r.condition.num) :
    (fallingStep e.fallPersistence h r).Runs e := by
  have highest := runs.highest_below below
  unfold Machine.fallingStep
  dsimp only
  generalize (if r.fall = 0 then h else Level.higher r.runCeiling h) = runCeiling at highest
  split
  · exact ofNone rfl rfl rfl rfl
  next more =>
    exact {
      rise := fun pos => pos
      fall := fun pos => by
        have := runs.fall pos
        dsimp only
        omega
      single := .inl rfl
      floorAbove := fun some => absurd rfl some
      noFloor := fun _ => rfl
      ceilingBelow := fun _ => highest
      noCeiling := nofun }

theorem withSetUsed (runs : r.Runs e) (u : SetUsed) : ({ r with setUsed := u } : LevelRec).Runs e := by
  obtain ⟨a, b, c, d, f, g, i⟩ := runs
  exact ⟨a, b, c, d, f, g, i⟩

theorem evaluateLevels (runs : r.Runs e) (raised : Bool) (a : Nat) : (evaluateLevels e raised a r).Runs e := by
  have runs' := runs.withSetUsed (if raised then .storm else .normal)
  unfold Machine.evaluateLevels
  dsimp only at runs' ⊢
  generalize (if raised then SetUsed.storm else SetUsed.normal) = used at runs' ⊢
  split_ifs with rises falls
  · exact runs'.risingStep rises
  · exact runs'.fallingStep falls
  · exact ofNone rfl rfl rfl rfl

theorem initial : LevelRec.initial.Runs e := ofNone rfl rfl rfl rfl

end LevelRec.Runs

/-- The law of runs, at one transformer. -/
def XfRec.RunOf (e : XfEntry) (r : XfRec) : Prop :=
  (r.inService = false → r.levels = LevelRec.initial) ∧ r.levels.Runs e

theorem State.runLaw_iff (s : State) : s.RunLaw ↔ s.EachXf fun _ _ _ => XfRec.RunOf :=
  forall_congr' fun _ => ⟨fun ⟨off, a, b, c, d, f, g, i⟩ => ⟨off, a, b, c, d, f, g, i⟩,
    fun ⟨off, a, b, c, d, f, g, i⟩ => ⟨off, a, b, c, d, f, g, i⟩⟩

theorem XfRec.RunOf.initial {e : XfEntry} {r : XfRec} (levels : r.levels = LevelRec.initial) : r.RunOf e :=
  ⟨fun _ => levels, levels ▸ .initial⟩

theorem XfRec.RunOf.congr {e : XfEntry} {q r : XfRec} (law : q.RunOf e) (on : r.inService = q.inService)
    (levels : r.levels = q.levels) : r.RunOf e :=
  ⟨fun off => levels.trans (law.1 (on.symm.trans off)), levels ▸ law.2⟩

theorem XfRec.heated_levels (e : XfEntry) (a : Nat) (r : XfRec) : (r.heated e a).levels = r.levels := by
  unfold heated withThermal
  dsimp only
  split_ifs
  · rfl
  · exact rederived_levels ..

theorem XfRec.acknowledged_levels (e : XfEntry) (r : XfRec) : (r.acknowledged e).levels = r.levels := by
  unfold acknowledged
  split_ifs
  · exact rederived_levels ..
  · rfl

theorem XfRec.idled_levels (e : XfEntry) (r : XfRec) : (r.idled e).levels = r.levels := by
  unfold idled
  split_ifs <;> rfl

theorem runOf_keptByRecords : KeptByRecords fun _ _ _ => XfRec.RunOf where
  standing := fun standing law => law.congr standing.inService standing.levels
  evaluated := fun {_ _ _ e r} raised on law => by
    refine ⟨fun off => ?_, ?_⟩
    · rw [XfRec.evaluated_inService, on] at off
      cases off
    · show (XfRec.rederived e _).levels.Runs e
      rw [XfRec.rederived_levels]
      exact law.2.evaluateLevels raised r.magnitude
  heated := fun a _ _ law => law.congr (XfRec.heated_inService ..) (XfRec.heated_levels ..)
  acknowledged := fun _ law => law.congr (XfRec.acknowledged_inService ..) (XfRec.acknowledged_levels ..)

theorem exec_runLaw {i : Instr} {s t : State} (service : s.ServiceLaw) (law : s.RunLaw) (executed : exec i s = .next t) :
    t.RunLaw := by
  rw [State.runLaw_iff] at law ⊢
  refine exec_eachXf runOf_keptByRecords law service (fun t e off => ?_) (fun _ _ _ => .initial rfl)
    (fun _ _ _ _ => .initial rfl) (fun t e v off => .initial ?_) executed
  · exact .initial ((XfRec.idled_levels ..).trans ((law t).1 off))
  · unfold XfRec.takenUp
    split_ifs
    · exact XfRec.rederived_levels ..
    · exact (XfRec.idled_levels ..).trans ((law t).1 off)

/-- Settles O13: a level record changes at an evaluation, which keeps the runs sound, and else begins anew. -/
theorem levelRunsStaySound : Obligations.LevelRunsStaySound := fun _ _ slots service law stepped =>
  step_keeps_served (P := State.RunLaw) (fun _ _ => id) (fun _ => id)
    (fun _ service law executed => exec_runLaw service law executed) slots service law stepped

/-! ### The thermal state -/

/-- One step of Θ never passes the target (R84). -/
theorem thetaStep_between (shift theta target : Nat) :
    min theta target ≤ thetaStep shift theta target ∧ thetaStep shift theta target ≤ max theta target := by
  unfold thetaStep
  split_ifs with none
  · omega
  · obtain ⟨k, rfl⟩ := Nat.exists_eq_succ_of_ne_zero none
    have half : (2 ^ (k + 1) : Nat) = 2 * 2 ^ k := by rw [pow_succ, Nat.mul_comm]
    have pos : 0 < 2 ^ k := Nat.two_pow_pos k
    rw [Nat.succ_sub_one, half]
    generalize 2 ^ k = h at pos
    obtain ⟨d, hd⟩ : ∃ d : Int, d = (target : Int) - theta := ⟨_, rfl⟩
    rw [← hd]
    have split := Int.emod_add_mul_ediv (d + (h : Int)) ((2 * h : Nat) : Int)
    have low := Int.emod_nonneg (d + (h : Int)) (b := ((2 * h : Nat) : Int)) (by omega)
    have high := Int.emod_lt_of_pos (d + (h : Int)) (b := ((2 * h : Nat) : Int)) (by omega)
    generalize (d + (h : Int)) / ((2 * h : Nat) : Int) = q at split
    generalize (d + (h : Int)) % ((2 * h : Nat) : Int) = r at split low high
    have product : ((2 * h : Nat) : Int) * q = 2 * (h * q) := by push_cast; ring
    rw [product] at split
    obtain up | down := le_or_gt 0 d
    · have lower : 0 ≤ q := by
        by_contra neg
        have : (h : Int) * q ≤ h * (-1) := Int.mul_le_mul_of_nonneg_left (by omega) (by omega)
        push_cast at high
        omega
      have upper : q ≤ d := by
        by_contra past
        have : (h : Int) * (d + 1) ≤ h * q := Int.mul_le_mul_of_nonneg_left (by omega) (by omega)
        nlinarith
      omega
    · have upper : q ≤ 0 := by
        by_contra pos'
        have : (h : Int) * 1 ≤ h * q := Int.mul_le_mul_of_nonneg_left (by omega) (by omega)
        omega
      have lower : d ≤ q := by
        by_contra past
        have : (h : Int) * q ≤ h * (d - 1) := Int.mul_le_mul_of_nonneg_left (by omega) (by omega)
        push_cast at high
        nlinarith
      omega

theorem thermalLevelOf_ne_watch (e : XfEntry) (theta : Nat) {present : Level} (h : present ≠ .watch) :
    thermalLevelOf e theta present ≠ .watch := by
  unfold thermalLevelOf
  split_ifs
  · nofun
  · nofun
  · cases present
    case watch => exact absurd rfl h
    all_goals
      unfold thermalDrop
      split_ifs <;> nofun

/-- The law of the thermal state, at one transformer. -/
def ThermalOf (ph : Phase) (_ : Option StoreWrite) (_ : Xf) (e : XfEntry) (r : XfRec) : Prop :=
  r.theta ≤ 65535 ∧ r.thermal ≠ .watch ∧ (ph = .running → e.coefficient = 0 → r.theta = 0 ∧ r.thermal = .quiet)

theorem ThermalOf.congr {ph : Phase} {w : Option StoreWrite} {t : Xf} {e : XfEntry} {q r : XfRec}
    (law : ThermalOf ph w t e q) (theta : r.theta = q.theta) (thermal : r.thermal = q.thermal) : ThermalOf ph w t e r := by
  unfold ThermalOf
  rw [theta, thermal]
  exact law

theorem XfRec.heated_theta (e : XfEntry) (a : Nat) (r : XfRec) :
    (r.heated e a).theta = thetaStep e.shift r.theta (min (thermalTargetRaw a e.coefficient) 65535) := by
  unfold heated withThermal
  dsimp only
  split_ifs
  · rfl
  · exact rederived_theta ..

theorem XfRec.heated_thermal (e : XfEntry) (a : Nat) (r : XfRec) :
    (r.heated e a).thermal = thermalLevelOf e (r.heated e a).theta r.thermal := by
  rw [heated_theta]
  unfold heated withThermal
  dsimp only
  split_ifs with same
  · exact same.symm
  · exact rederived_thermal ..

/-- Θ and T are 0 where the coefficient is 0, and as they were elsewhere. -/
theorem ThermalOf.idled {ph : Phase} {w : Option StoreWrite} {t : Xf} {e : XfEntry} {r : XfRec}
    (theta : r.theta ≤ 65535) (thermal : r.thermal ≠ .watch) : ThermalOf ph w t e (r.idled e) := by
  unfold XfRec.idled
  split_ifs with zero
  · exact ⟨Nat.zero_le _, nofun, fun _ _ => ⟨rfl, rfl⟩⟩
  · exact ⟨theta, thermal, fun _ zero' => absurd zero' zero⟩

theorem thermalOf_keptByRecords : KeptByRecords ThermalOf where
  standing := fun standing law => law.congr standing.theta standing.thermal
  evaluated := fun raised _ law => law.congr (XfRec.rederived_theta ..) (XfRec.rederived_thermal ..)
  heated := fun {_ _ _ e r} a _ warm law => by
    refine ⟨?_, ?_, fun _ zero => absurd zero warm⟩
    · rw [XfRec.heated_theta]
      have bound := (thetaStep_between e.shift r.theta (min (thermalTargetRaw a e.coefficient) 65535)).2
      have := law.1
      omega
    · rw [XfRec.heated_thermal]
      exact thermalLevelOf_ne_watch _ _ law.2.1
  acknowledged := fun {_ _ _ e r} _ law => by
    unfold XfRec.acknowledged
    split_ifs
    · exact law.congr (XfRec.rederived_theta ..) (XfRec.rederived_thermal ..)
    · exact law

theorem exec_thermalLaw {i : Instr} {s t : State} (law : s.ThermalLaw) (executed : exec i s = .next t) : t.ThermalLaw := by
  have each : s.EachXf ThermalOf := law
  refine thermalOf_keptByRecords.work.events.exec each (fun w _ _ => each)
    (fun w write => thermalOf_keptByRecords.takeWritten (s := finishWrite w s) each w (fun t e _ => ?_) (fun t e v _ _ => ?_)
      (fun t e _ _ => ?_))
    (fun restoring => restoreCompletes_eachXf restoring fun t v => ?_) (fun u starts t => ?_) executed
  · exact .idled (law t).1 (law t).2.1
  · exact ⟨Nat.zero_le _, nofun, fun _ _ => ⟨rfl, rfl⟩⟩
  · exact law t
  · have idled : ThermalOf .running s.write t (s.xfEntry t) ((s.xf t).idled (s.xfEntry t)) :=
      .idled (law t).1 (law t).2.1
    unfold XfRec.takenUp
    split_ifs
    · exact idled.congr (XfRec.rederived_theta ..) (XfRec.rederived_thermal ..)
    · exact idled
  · refine ⟨?_, ?_, fun running => absurd running starts.phase⟩
    · obtain h | h := starts.xfs t <;> rw [h]
      · exact Nat.zero_le _
      · exact (law t).1
    · obtain h | h := starts.xfs t <;> rw [h]
      · nofun
      · exact (law t).2.1

/-- Settles O14: Θ and T change at a thermal step, which stays in range and comes with a coefficient alone, and where
they become 0. -/
theorem thermalStateStaysSound : Obligations.ThermalStateStaysSound := fun _ _ law stepped =>
  step_keeps (P := State.ThermalLaw) (fun _ _ => id) (fun _ => id) (fun _ _ _ law executed => exec_thermalLaw law executed)
    law stepped

end Sys2Proof.Machine

/-! PROOF. The station record (R97, R103, R104): the alert count, the quorum, the hold timer and the watch run. -/

namespace Sys2Proof.Machine

/-! ### The station record by itself -/

/-- The hold timer and the watch run, as the station state and the quorum have them (R97, R103, R104). -/
structure StationRec.Runs (r : StationRec) : Prop where
  storm : r.quorumMet = true → r.state = .storm
  hold : r.holdTimer.isSome = true ↔ r.state = .watch ∨ r.state = .storm ∧ r.quorumMet = false
  watchRun : r.watchRun ≤ 2
  calm : r.watchRun ≠ 0 → r.state = .calm

/-- The quorum is formed from the alert count, and the runs are sound. -/
structure StationRec.Law (quorum : Nat) (r : StationRec) : Prop extends r.Runs where
  quorum : r.quorumMet = quorumCondition quorum r.alertCount

theorem State.stationLaw_iff (s : State) :
    s.StationLaw ↔ s.station.alertCount = s.countedXfs ∧ s.station.Law s.setup.quorum :=
  ⟨fun ⟨count, quorum, storm, hold, watchRun, calm⟩ => ⟨count, ⟨storm, hold, watchRun, calm⟩, quorum⟩,
    fun ⟨count, ⟨storm, hold, watchRun, calm⟩, quorum⟩ => ⟨count, quorum, storm, hold, watchRun, calm⟩⟩

namespace StationRec.Runs

variable {r q : StationRec}

theorem congr (runs : r.Runs) (state : q.state = r.state) (quorumMet : q.quorumMet = r.quorumMet)
    (holdTimer : q.holdTimer.isSome = r.holdTimer.isSome) (watchRun : q.watchRun = r.watchRun) : q.Runs := by
  obtain ⟨storm, hold, run, calm⟩ := runs
  exact ⟨by rw [quorumMet, state]; exact storm, by rw [holdTimer, state, quorumMet]; exact hold,
    by rw [watchRun]; exact run,
    by rw [watchRun, state]; exact calm⟩

/-- Outside STORM the quorum is not met. -/
theorem not_met (runs : r.Runs) (state : r.state ≠ .storm) : r.quorumMet = false := by
  cases met : r.quorumMet with
  | false => rfl
  | true => exact absurd (runs.storm met) state

theorem noRun (runs : r.Runs) (state : r.state ≠ .calm) : r.watchRun = 0 := by
  by_contra run
  exact state (runs.calm run)

end StationRec.Runs

/-- Two station records agree in the alert count and in whether the quorum is met. -/
def StationRec.SameCount (r q : StationRec) : Prop := q.alertCount = r.alertCount ∧ q.quorumMet = r.quorumMet

theorem enterStation_station (new : StationState) (s : State) :
    (enterStation new s).station = { s.station with state := new } := by
  rw [enterStation_eq]

theorem judgeNorm_runs {s : State} (r : Nat) (runs : s.station.Runs) :
    (judgeNorm r s).station.Runs ∧ s.station.SameCount (judgeNorm r s).station := by
  unfold judgeNorm
  split
  · next calm =>
    have notMet := runs.not_met (by rw [calm]; nofun)
    have stopped : s.station.holdTimer.isSome = false := by
      rw [Bool.eq_false_iff, ne_eq, runs.hold, calm]
      nofun
    unfold judgeCalm
    split
    · rw [enterStation_station]
      exact ⟨⟨fun _ => rfl, iff_of_true rfl (.inr ⟨rfl, notMet⟩), Nat.zero_le _, fun run => absurd rfl run⟩, rfl, rfl⟩
    split
    · split
      · rw [enterStation_station]
        exact ⟨⟨fun met => (nomatch notMet.symm.trans met), iff_of_true rfl (.inl rfl), Nat.zero_le _,
          fun run => absurd rfl run⟩, rfl, rfl⟩
      · next more =>
        have bound := runs.watchRun
        exact ⟨⟨runs.storm, runs.hold, by show s.station.watchRun + 1 ≤ 2; omega, fun _ => calm⟩, rfl, rfl⟩
    · exact ⟨⟨runs.storm, runs.hold, Nat.zero_le _, fun _ => calm⟩, rfl, rfl⟩
  · next watch =>
    have notMet := runs.not_met (by rw [watch]; nofun)
    have noRun := runs.noRun (by rw [watch]; nofun)
    unfold judgeWatch
    split
    · rw [enterStation_station]
      exact ⟨⟨fun _ => rfl, iff_of_true rfl (.inr ⟨rfl, notMet⟩), runs.watchRun, fun run => absurd noRun run⟩, rfl, rfl⟩
    split
    · exact ⟨⟨runs.storm, iff_of_true rfl (.inl watch), runs.watchRun, runs.calm⟩, rfl, rfl⟩
    · exact ⟨runs, rfl, rfl⟩
  · unfold judgeStorm
    split
    · next restarts =>
      exact ⟨⟨runs.storm, iff_of_true rfl (runs.hold.1 restarts.2), runs.watchRun, runs.calm⟩, rfl, rfl⟩
    · exact ⟨runs, rfl, rfl⟩

theorem rateNotice_runs {s : State} (c : Channel) (k : ChannelKind) (r : Int) (runs : s.station.Runs) :
    (rateNotice c k r s).station.Runs ∧ s.station.SameCount (rateNotice c k r s).station := by
  have axes : (s.station.withRate k r c).Runs ∧ s.station.SameCount (s.station.withRate k r c) := by
    cases k
    · exact ⟨runs, rfl, rfl⟩
    · exact ⟨runs.congr rfl rfl rfl rfl, rfl, rfl⟩
    · exact ⟨runs.congr rfl rfl rfl rfl, rfl, rfl⟩
  unfold rateNotice formNorm
  obtain ⟨judged, count⟩ := judgeNorm_runs (s := (s.setStation (s.station.withRate k r c)).setStation
    { (s.station.withRate k r c) with latestNorm := some (s.station.withRate k r c).norm })
    (s.station.withRate k r c).norm (axes.1.congr rfl rfl rfl rfl)
  exact ⟨judged, count.1.trans axes.2.1, count.2.trans axes.2.2⟩

/-- After the quorum is formed the station record is sound, whatever the quorum was formed from before (R104). -/
theorem formQuorum_law {s : State} (runs : s.station.Runs) : (formQuorum s).station.Law s.setup.quorum := by
  obtain ⟨met, count⟩ := formQuorum_met s
  refine ⟨?_, by rw [met, count]⟩
  clear met count
  unfold formQuorum
  dsimp only
  split
  · exact runs
  · next changes =>
    split
    · next met =>
      unfold quorumBecomesMet
      split
      · rw [enterStation_station]
        exact ⟨fun _ => rfl, iff_of_false nofun nofun, Nat.zero_le _, fun run => absurd rfl run⟩
      · rw [enterStation_station]
        exact ⟨fun _ => rfl, iff_of_false nofun nofun, Nat.zero_le _, fun run => absurd rfl run⟩
      · next storm =>
        refine ⟨fun _ => storm, iff_of_false nofun ?_, runs.watchRun, runs.calm⟩
        rintro (watch | ⟨-, notMet⟩)
        · cases storm.symm.trans watch
        · cases notMet
    · next notMet =>
      have was : s.station.quorumMet = true := by
        cases h : s.station.quorumMet with
        | true => rfl
        | false => exact absurd ((Bool.not_eq_true _ ▸ notMet).trans h.symm) changes
      exact ⟨nofun, iff_of_true rfl (.inr ⟨runs.storm was, rfl⟩), runs.watchRun, runs.calm⟩

theorem holdExpires_runs {s : State} (runs : s.station.Runs) :
    (holdExpires s).station.Runs ∧ s.station.SameCount (holdExpires s).station := by
  unfold holdExpires
  split
  · next running =>
    split
    · exact ⟨runs, rfl, rfl⟩
    · next watch =>
      have notMet := runs.not_met (by rw [watch]; nofun)
      rw [enterStation_station]
      exact ⟨⟨fun met => (nomatch notMet.symm.trans met), iff_of_false nofun nofun, Nat.zero_le _,
        fun run => absurd rfl run⟩, rfl, rfl⟩
    · next storm =>
      have notMet : s.station.quorumMet = false := by
        obtain watch | ⟨-, notMet⟩ := runs.hold.1 running
        · cases storm.symm.trans watch
        · exact notMet
      have noRun := runs.noRun (by rw [storm]; nofun)
      rw [enterStation_station]
      exact ⟨⟨fun met => (nomatch notMet.symm.trans met), iff_of_true rfl (.inl rfl), runs.watchRun,
        fun run => absurd noRun run⟩, rfl, rfl⟩
  · exact ⟨runs, rfl, rfl⟩

/-! ### The alert count (R104) -/

theorem countP_update {α : Type} [DecidableEq α] {p q : α → Bool} {a : α} (others : ∀ b, b ≠ a → q b = p b)
    (l : List α) (nodup : l.Nodup) (mem : a ∈ l) :
    l.countP q + (if p a then 1 else 0) = l.countP p + (if q a then 1 else 0) := by
  have rest : ∀ l : List α, a ∉ l → l.countP q = l.countP p := fun l absent =>
    List.countP_congr fun b hb => by rw [others b (fun h => absent (h ▸ hb))]
  induction l with
  | nil => cases mem
  | cons b l ih =>
    obtain ⟨new, nodup⟩ := List.nodup_cons.1 nodup
    rw [List.countP_cons, List.countP_cons]
    by_cases same : b = a
    · subst same
      rw [rest l new]
      omega
    · have := ih nodup ((List.mem_cons.1 mem).resolve_left (Ne.symm same))
      rw [others b same]
      omega

/-- The count after one record is replaced. -/
theorem countedXfs_setXf (s : State) (t : Xf) (r : XfRec) :
    (s.setXf t r).countedXfs + (if (s.xf t).counted then 1 else 0) = s.countedXfs + (if r.counted then 1 else 0) := by
  have counted : ∀ u : State, u.countedXfs = (List.finRange 16).countP fun o => (u.xf o).counted := fun _ => rfl
  rw [counted, counted]
  have := countP_update (p := fun o => (s.xf o).counted) (q := fun o => ((s.setXf t r).xf o).counted) (a := t)
    (fun o other => by rw [State.setXf_xf_other _ _ _ _ other]) (List.finRange 16) (List.nodup_finRange 16) (List.mem_finRange t)
  rw [State.setXf_xf_same] at this
  exact this

theorem State.countedXfs_congr {s u : State} (h : ∀ t, (u.xf t).counted = (s.xf t).counted) :
    u.countedXfs = s.countedXfs := by
  unfold countedXfs
  exact List.countP_congr fun t _ => by rw [show (u.xfs[t]).counted = (s.xfs[t]).counted from h t]

/-- The alert count moves with a replaced record, by its old and its new level (R73, R104). -/
theorem countAfter_countedXfs {s : State} {t : Xf} {r : XfRec} {old new : Level}
    (was : (s.xf t).counted = old.alertOrAbove) (becomes : r.counted = new.alertOrAbove) :
    countAfter old new s.countedXfs = (s.setXf t r).countedXfs := by
  have moved := countedXfs_setXf s t r
  rw [was, becomes] at moved
  unfold countAfter
  cases h : old.alertOrAbove <;> cases h' : new.alertOrAbove <;> simp [h, h'] at moved ⊢ <;> omega

/-! ### The law through the work -/

namespace State.StationLaw

variable {s u : State}

theorem count (law : s.StationLaw) : s.station.alertCount = s.countedXfs := law.1

theorem record (law : s.StationLaw) : s.station.Law s.setup.quorum := ((State.stationLaw_iff s).1 law).2

theorem same (law : s.StationLaw) (setup : u.setup.quorum = s.setup.quorum) (station : u.station = s.station)
    (xfs : ∀ t, (u.xf t).counted = (s.xf t).counted) : u.StationLaw := by
  rw [stationLaw_iff, setup, station, State.countedXfs_congr xfs]
  exact (State.stationLaw_iff s).1 law

/-- A change of the station record that keeps the counts and the runs. -/
theorem ofRuns (law : s.StationLaw) (setup : u.setup = s.setup) (xfs : u.xfs = s.xfs) (runs : u.station.Runs)
    (count : s.station.SameCount u.station) : u.StationLaw := by
  rw [stationLaw_iff, setup, State.countedXfs_congr (s := s) fun t => by rw [State.xf_congr xfs]]
  exact ⟨count.1.trans law.count, runs, by rw [count.1, count.2]; exact law.record.quorum⟩

end State.StationLaw

/-- A level notice makes the law true for the record that it follows. -/
theorem levelNotice_stationLaw {s : State} {old new : Level} (runs : s.station.Runs)
    (count : countAfter old new s.station.alertCount = s.countedXfs) : (levelNotice old new s).StationLaw := by
  have formed := formQuorum_law (s := s.setStation
    { s.station with alertCount := countAfter old new s.station.alertCount }) (runs.congr rfl rfl rfl rfl)
  rw [State.stationLaw_iff]
  have quorum : (levelNotice old new s).setup = s.setup := by rw [levelNotice_eq]
  have xfs : (levelNotice old new s).xfs = s.xfs := by rw [levelNotice_eq]
  rw [quorum, State.countedXfs_congr (s := s) fun t => by rw [State.xf_congr xfs]]
  exact ⟨(formQuorum_met _).2.trans count, formed⟩

/-- A record of a transformer in service that takes its re-derived level, with the notices of a change. -/
theorem rederive_stationLaw {s : State} {t : Xf} (law : s.StationLaw) (on : (s.xf t).inService = true) :
    (rederive t s).StationLaw := by
  unfold rederive
  dsimp only
  split
  · exact law
  · have was : (s.xf t).counted = (s.xf t).reported.alertOrAbove := by rw [XfRec.counted, on, Bool.true_and]
    refine levelNotice_stationLaw (law.record.toRuns.congr rfl rfl rfl rfl) ?_
    show countAfter _ _ s.station.alertCount = _
    rw [law.count]
    refine countAfter_countedXfs was ?_
    rw [XfRec.counted, XfRec.withReported_inService, XfRec.withReported_reported, on, Bool.true_and]

theorem State.StationLaw.mapXf {s : State} (law : s.StationLaw) {t : Xf} {f : XfRec → XfRec}
    (counted : (f (s.xf t)).counted = (s.xf t).counted) : (s.mapXf t f).StationLaw :=
  law.same rfl rfl fun o => by
    rw [State.mapXf_eq, State.setXf_xf]
    split_ifs with same
    · rw [counted, same]
    · rfl

theorem updateThermalLevel_stationLaw {s : State} {t : Xf} (law : s.StationLaw) (on : (s.xf t).inService = true) :
    (updateThermalLevel t s).StationLaw := by
  unfold updateThermalLevel
  dsimp only
  split
  · exact law
  · exact rederive_stationLaw (law.mapXf (t := t) rfl) (by rw [State.mapXf_eq, State.setXf_xf_same]; exact on)

theorem updateTheta_stationLaw {s : State} (t : Xf) (a : Nat) (law : s.StationLaw) : (updateTheta t a s).StationLaw := by
  unfold updateTheta
  dsimp only
  split
  · refine State.StationLaw.mapXf ?_ rfl
    rw [report_eq]
    exact law
  · exact law.mapXf rfl

theorem stationLaw_keptByWork : KeptByWork State.StationLaw where
  beside := fun ⟨_, setup, _, _, _, xfs, _, station, _⟩ law =>
    law.same (by rw [setup]) station fun t => by rw [State.xf_congr xfs]
  setChannel _ _ law := law.same rfl rfl fun _ => rfl
  setXf {s} t r standing law := law.mapXf (t := t) (f := fun _ => r) (by
    rw [XfRec.counted, standing.inService, standing.reported]
    rfl)
  evaluate t on law := rederive_stationLaw (law.mapXf (t := t) rfl) (by
    rw [State.mapXf_eq, State.setXf_xf_same]; exact on)
  heat t a on _ law := updateThermalLevel_stationLaw (updateTheta_stationLaw t a law) (by rw [updateTheta_xf]; exact on)
  rateNotice c k r law := by
    obtain ⟨runs, count⟩ := rateNotice_runs c k r law.record.toRuns
    exact law.ofRuns (by rw [rateNotice_eq]) (by rw [rateNotice_eq]) runs count
  withdrawalNotice c law := law.ofRuns rfl rfl (law.record.toRuns.congr rfl rfl rfl rfl) ⟨rfl, rfl⟩
  holdExpires {s} law := by
    obtain ⟨runs, count⟩ := holdExpires_runs law.record.toRuns
    have same : (holdExpires s).setup = s.setup ∧ (holdExpires s).xfs = s.xfs := by
      unfold holdExpires
      split
      · split
        · exact ⟨rfl, rfl⟩
        · rw [enterStation_eq]; exact ⟨rfl, rfl⟩
        · rw [enterStation_eq]; exact ⟨rfl, rfl⟩
      · exact ⟨rfl, rfl⟩
    exact law.ofRuns same.1 same.2 runs count
  runTimers n law := law.ofRuns rfl rfl (law.record.toRuns.congr rfl rfl (Option.isSome_map ..) rfl) ⟨rfl, rfl⟩
  acknowledgeFlag {s} t law := by
    unfold acknowledgeFlag
    split
    · next alarming =>
      have on : (s.xf t).inService = true := by
        rw [XfRec.alarming, Bool.and_eq_true] at alarming
        exact alarming.1
      exact rederive_stationLaw (law.mapXf (t := t) rfl) (by rw [State.mapXf_eq, State.setXf_xf_same]; exact on)
    · exact law

/-! ### The commands -/

theorem placeXf_stationLaw {s : State} {t : Xf} (law : s.StationLaw) (off : (s.xf t).inService = false) :
    (placeXf t s).StationLaw := by
  refine levelNotice_stationLaw (law.record.toRuns.congr rfl rfl rfl rfl) ?_
  show countAfter .quiet .quiet s.station.alertCount = _
  rw [law.count]
  refine countAfter_countedXfs (t := t) ?_ rfl
  rw [XfRec.counted, off]
  rfl

theorem removeXf_stationLaw {s : State} {t : Xf} (law : s.StationLaw) (on : (s.xf t).inService = true) :
    (removeXf t s).StationLaw := by
  refine levelNotice_stationLaw (law.record.toRuns.congr rfl rfl rfl rfl) ?_
  show countAfter _ _ s.station.alertCount = _
  rw [law.count]
  refine countAfter_countedXfs ?_ rfl
  rw [XfRec.counted, on, Bool.true_and]

theorem takeWritten_stationLaw {s : State} (law : s.StationLaw) {w : StoreWrite} (supposes : w.Supposes s) :
    (takeWritten w s).StationLaw := by
  cases w
  case setup e =>
    unfold takeWritten
    dsimp only
    rw [State.stationLaw_iff]
    have formed := formQuorum_law
      (s := s.setSetup { e with guardSpan := s.setup.guardSpan, lockFlag := s.setup.lockFlag })
      law.record.toRuns
    have count := (formQuorum_met (s.setSetup
      { e with guardSpan := s.setup.guardSpan, lockFlag := s.setup.lockFlag })).2.trans law.count
    rw [formQuorum_eq] at formed count ⊢
    exact ⟨count, formed⟩
  case guardSpan e => exact law.same rfl rfl fun _ => rfl
  case channelEntry c e => exact law
  case xfEntry t e =>
    unfold takeWritten
    dsimp only
    rw [zeroIdleThermal_eq]
    refine State.StationLaw.mapXf (s := rebuildMemberMap (s.setXfEntry t e)) (f := XfRec.idled _) law ?_
    unfold XfRec.idled
    split_ifs <;> rfl
  case channelService c e => exact stationLaw_keptByWork.serviceChange (fun _ _ => id) c e law
  case xfService t e =>
    unfold takeWritten
    dsimp only
    split
    · next on => exact placeXf_stationLaw (s := s.setXfEntry _ _) law (supposes.trans (by rw [on]; rfl))
    · next off =>
      exact removeXf_stationLaw (s := s.setXfEntry _ _) law (supposes.trans (by rw [Bool.not_eq_true] at off; rw [off]; rfl))

theorem restoreCompletes_stationLaw {s : State} (law : s.StationLaw) (restoring : s.phase = .restoring) :
    (restoreCompletes s).StationLaw := by
  refine restoreCompletes_leads (P := fun u => u.station.Runs) (Q := fun u => u.station.Runs) restoring
    law.record.toRuns (fun {u} c runs => ?_) (fun _ => id) (fun {u} runs => ?_) (fun {u} runs => ?_)
  · unfold takeUpChannel
    split <;> exact runs
  · rw [(foldl_takeUpXf (List.finRange 16) (List.nodup_finRange 16) u).1]
    exact runs
  · have formed := formQuorum_law (s := u.setStation { u.station with alertCount := u.countedXfs })
      (runs.congr rfl rfl rfl rfl)
    have count := (formQuorum_met (u.setStation { u.station with alertCount := u.countedXfs })).2
    unfold stationTakeUp
    rw [State.stationLaw_iff]
    rw [formQuorum_eq] at formed count ⊢
    exact ⟨count, formed⟩

theorem exec_stationLaw {i : Instr} {s t : State} (service : s.ServiceLaw) (law : s.StationLaw)
    (executed : exec i s = .next t) : t.StationLaw := by
  refine stationLaw_keptByWork.events.exec law (fun _ _ _ => law)
    (fun w write => takeWritten_stationLaw (s := finishWrite w s) law ?_) (restoreCompletes_stationLaw law)
    (fun u starts => ?_) executed
  · have := service.2 w write
    cases w <;> exact this
  · have off : u.countedXfs = 0 := List.countP_eq_zero.2 fun t _ => by
      have record : (u.xf t).counted = false := by obtain h | h := starts.xfs t <;> rw [h] <;> rfl
      show ¬(u.xf t).counted = true
      simp [record]
    rw [State.stationLaw_iff, off, starts.station]
    refine ⟨rfl, ⟨nofun, iff_of_false nofun nofun, Nat.zero_le _, nofun⟩, ?_⟩
    show false = quorumCondition u.setup.quorum 0
    simp [quorumCondition]

/-- Settles O11: the count moves with each level notice, and the quorum is formed anew from it. -/
theorem stationStaysSound : Obligations.StationStaysSound := fun _ _ slots service law stepped =>
  step_keeps_served (P := State.StationLaw) (fun _ _ => id) (fun _ => stationLaw_keptByWork.runTimers 1)
    (fun _ service law executed => exec_stationLaw service law executed) slots service law stepped

end Sys2Proof.Machine

/-! PROOF. The idle part (log entries 3 and 15): the expiries that are due, in their order, and the tick. -/

namespace Sys2Proof.Machine

theorem mem_dueCommands (s : State) (i : Instr) : i ∈ dueCommands s ↔ s.Due i := by
  unfold dueCommands State.Due State.channel
  cases i
  case uptimeSecondCount =>
    simp only [List.mem_append, List.mem_map, List.mem_ite_nil_right, List.mem_singleton, reduceCtorEq, and_false,
      exists_false, false_or, or_false, and_true]
    exact Iff.rfl
  all_goals simp

/-- The expiries that one kind of channel timer gives: the first is that of the lowest channel, and without one the list
goes on. -/
theorem firstDue {p : Channel → Bool} {f : Channel → Instr} {l rest : List Instr} {i : Instr}
    (h : ((List.finRange 40).filter p).map f ++ l = i :: rest) :
    (∀ c, p c = true → ∃ d, d ≤ c ∧ i = f d) ∧ ((∀ c, p c = false) → l = i :: rest) := by
  refine ⟨fun c due => ?_, fun none => ?_⟩
  · have mem : c ∈ (List.finRange 40).filter p := List.mem_filter.2 ⟨List.mem_finRange c, due⟩
    have sorted : ((List.finRange 40).filter p).Pairwise (· < ·) := (List.pairwise_lt_finRange 40).filter p
    cases first : (List.finRange 40).filter p with
    | nil => simp [first] at mem
    | cons d ds =>
      rw [first] at mem sorted h
      refine ⟨d, ?_, (List.cons.inj h).1.symm⟩
      obtain rfl | later := List.mem_cons.1 mem
      · exact le_rfl
      · exact ((List.pairwise_cons.1 sorted).1 c later).le
  · have empty : (List.finRange 40).filter p = [] := List.filter_eq_nil_iff.2 fun c _ => by simp [none c]
    rwa [empty] at h

theorem idle_of_due {s : State} {i : Instr} {rest : List Instr} (running : s.phase = .running)
    (due : dueCommands s = i :: rest) : idle s = { s with pending := s.pending ++ [i] } := by
  rw [idle, if_pos running, due]

theorem idle_of_none_due {s : State} (running : s.phase = .running) (none : dueCommands s = []) : idle s = tick s := by
  rw [idle, if_pos running, none]

theorem step_of_nothing_waiting {s : State} (empty : s.pending = []) : step s = .next (idle s) := by
  rw [step, empty]

/-- Settles O2: the first due expiry heads `dueCommands`, whose five parts stand in the order of log entry 15. -/
theorem idleStepIsOneTick : Obligations.IdleStepIsOneTick := by
  intro s empty
  rw [step_of_nothing_waiting empty]
  refine ⟨fun stopped => ?_, fun running ⟨i, due⟩ => ?_, fun running none => ?_⟩
  · rw [idle, if_neg stopped]
  · cases first : dueCommands s with
    | nil => simp [← mem_dueCommands, first] at due
    | cons i rest =>
      have due : s.Due i := (mem_dueCommands s i).1 (first ▸ List.mem_cons_self)
      refine ⟨i, due, ?_, ?_⟩
      · rw [idle_of_due running first, empty]
        rfl
      · unfold dueCommands at first
        simp only [List.append_assoc] at first
        obtain ⟨stale, rest1⟩ := firstDue first
        refine ⟨fun c hc => stale c (beq_iff_eq.2 hc), fun noStale => ?_⟩
        obtain ⟨lost, rest2⟩ := firstDue (rest1 fun c => beq_eq_false_iff_ne.2 (noStale c))
        refine ⟨fun c hc => lost c (beq_iff_eq.2 hc), fun noLost => ?_⟩
        have first3 := rest2 fun c => beq_eq_false_iff_ne.2 (noLost c)
        refine ⟨fun hold => ?_, fun noHold uptime => ?_⟩
        · rw [if_pos (show s.station.holdTimer = some 0 from hold)] at first3
          exact (List.cons.inj first3).1.symm
        · rw [if_neg (show ¬s.station.holdTimer = some 0 from noHold),
            if_pos (show Config.ticksPerSecond ≤ s.clock.subTick from uptime)] at first3
          exact (List.cons.inj first3).1.symm
  · have noCommand : dueCommands s = [] :=
      List.eq_nil_iff_forall_not_mem.2 fun i mem => none i ((mem_dueCommands s i).1 mem)
    refine ⟨_, congrArg _ (idle_of_none_due running noCommand), fun c => ?_⟩
    exact runTimers_channel 1 s c

end Sys2Proof.Machine

/-! PROOF. The requests that read the tables and the records (R169, R184 to R186): what each answers in a serving state,
and the bytes of its answer field by field. -/

namespace Sys2Proof.Machine

section Serving
variable {s : State} (h : s.Serving) (source tag : Byte)
include h

theorem exec_readSetup :
    exec (.readSetup source tag []) s =
      .next (s.answered ⟨source, [0x01, tag]⟩ .done 0 (setupImageBytes s.setup)) := by
  rw [exec, execReadSetup, intake_serving h]
  exact congrArg _ (arbiter_respondDone_holdRequest _ _ _ s)

/-- READ CHANNEL answers with the entry that the index names. -/
theorem exec_readChannel (i : Byte) :
    exec (.readChannel source tag [i]) s = .next (
      match channelOfIndex i.toNat with
      | none => s.answered ⟨source, [0x03, tag, i]⟩ .badIndex 1 []
      | some c => s.answered ⟨source, [0x03, tag, i]⟩ .done 0 (channelImageBytes (s.channelEntry c))) := by
  rw [exec, execReadChannel, intake_serving h]
  simp only [serveReadChannel, requestBody_length, requestBody_u8_two, u8_cons_zero, List.length_singleton, ne_eq,
    not_true_eq_false, if_false]
  cases channelOfIndex i.toNat with
  | none => exact congrArg _ (arbiter_refuse_holdRequest _ _ _ _ s)
  | some c => exact congrArg _ (arbiter_respondDone_holdRequest _ _ _ s)

/-- READ TRANSFORMER answers with the entry that the index names. -/
theorem exec_readTransformer (i : Byte) :
    exec (.readTransformer source tag [i]) s = .next (
      match xfOfIndex i.toNat with
      | none => s.answered ⟨source, [0x05, tag, i]⟩ .badIndex 1 []
      | some t => s.answered ⟨source, [0x05, tag, i]⟩ .done 0 (xfImageBytes (s.xfEntry t))) := by
  rw [exec, execReadTransformer, intake_serving h]
  simp only [serveReadTransformer, requestBody_length, requestBody_u8_two, u8_cons_zero, List.length_singleton, ne_eq,
    not_true_eq_false, if_false]
  cases xfOfIndex i.toNat with
  | none => exact congrArg _ (arbiter_refuse_holdRequest _ _ _ _ s)
  | some t => exact congrArg _ (arbiter_respondDone_holdRequest _ _ _ s)

end Serving

/-! ### Bytes by code -/

theorem be8_channelKind_code (k : ChannelKind) :
    be8 k.code = [match k with | .neutral => 0 | .fieldX => 1 | .fieldY => 2] := by
  cases k <;> rfl

theorem be8_polarity_code (p : Polarity) : be8 p.code = [match p with | .plus => 0 | .minus => 1] := by
  cases p <;> rfl

theorem be8_guardSpan_code (g : GuardSpan) :
    be8 g.code = [match g with | .none => 0 | .topQuarter => 1 | .topHalf => 2 | .all => 3] := by
  cases g <;> rfl

theorem be8_channelState_rank (x : ChannelState) :
    be8 x.rank = [match x with | .off => 0 | .valid => 1 | .settling => 2 | .suspect => 3 | .stale => 4 | .lost => 5] := by
  cases x <;> rfl

theorem be8_setUsed_code (u : SetUsed) : be8 u.code = [match u with | .none => 0 | .normal => 1 | .storm => 2] := by
  cases u <;> rfl

theorem be8_result_code (r : Result) :
    be8 r.code = [match r with
      | .done => 0 | .notReady => 1 | .unknownRequest => 2 | .badLength => 3 | .badIndex => 4 | .guarded => 5
      | .locked => 6 | .inService => 7 | .badValue => 8] := by
  cases r <;> rfl

/-- A byte of a two's complement number is that number's byte. -/
theorem signed8_eq (x : Int) : signed8 x = [BitVec.ofInt 8 x] := by
  rw [signed8, be8, BitVec.ofNat_toNat, BitVec.setWidth_eq]

/-! ### The images (R185) -/

theorem setupImageBytes_eq (e : Setup) :
    setupImageBytes e =
      [BitVec.ofNat 8 e.freq, BitVec.ofNat 8 e.statusInterval, BitVec.ofNat 8 e.captureLevel] ++ be16 e.watchRate
        ++ be16 e.stormRate ++ be16 e.holdTime ++ [BitVec.ofNat 8 e.quorum]
        ++ ([match e.guardSpan with | .none => 0 | .topQuarter => 1 | .topHalf => 2 | .all => 3] : List Byte)
        ++ ([if e.lockFlag then 1 else 0] : List Byte) := by
  rw [setupImageBytes, setupFieldBytes, be8_guardSpan_code, flagByte_eq]
  rfl

theorem channelImageBytes_eq (e : ChannelEntry) :
    channelImageBytes e =
      ([match e.kind with | .neutral => 0 | .fieldX => 1 | .fieldY => 2] : List Byte) ++ be16 e.sensorId ++ [BitVec.ofNat 8 e.input]
        ++ be16 e.gain ++ be16 (BitVec.ofInt 16 e.offset).toNat
        ++ ([match e.polarity with | .plus => 0 | .minus => 1] : List Byte) ++ [BitVec.ofNat 8 e.shift] ++ be16 e.lostLimit
        ++ ([if e.inService then 1 else 0] : List Byte) := by
  rw [channelImageBytes, channelFieldBytes, be8_channelKind_code, be8_polarity_code, flagByte_eq]
  rfl

theorem slotBytes_eq (m : MemberSlot) :
    slotBytes m =
      ([match m.channel with | some c => BitVec.ofNat 8 c.val | none => 0xFF] : List Byte) ++ [BitVec.ofInt 8 m.weight] := by
  rw [slotBytes, signed8_eq]
  cases m.channel <;> rfl

theorem xfImageBytes_eq (e : XfEntry) :
    xfImageBytes e =
      slotBytes e.slots[0] ++ slotBytes e.slots[1] ++ slotBytes e.slots[2] ++ slotBytes e.slots[3]
        ++ thresholdBytes e.normal ++ thresholdBytes e.storm ++ [BitVec.ofNat 8 e.risePersistence]
        ++ be16 e.fallPersistence ++ ([if e.latch then 1 else 0] : List Byte) ++ be16 e.coefficient ++ [BitVec.ofNat 8 e.shift]
        ++ be16 e.alertLimit ++ be16 e.alarmLimit ++ ([if e.inService then 1 else 0] : List Byte) := by
  rw [xfImageBytes, xfFieldBytes, flagByte_eq, flagByte_eq]
  rfl

/-- Settles O17: each read is one branch of its request's equation in a serving state, and each image is its layout
with the code bytes and flags written out. -/
theorem tableReadsAnswerTheLiveTables : Obligations.TableReadsAnswerTheLiveTables := by
  intro s source tag h
  refine ⟨exec_readSetup h source tag, fun i within => ?_, fun i outside => ?_, fun i within => ?_, fun i outside => ?_,
    ?_, fun e c x => ⟨rfl, rfl, ?_⟩, fun u rq result detail data => ?_⟩
  · rw [exec_readChannel h, channelOfIndex_of_lt _ within]
  · rw [exec_readChannel h, channelOfIndex_of_le _ outside]
  · rw [exec_readTransformer h, xfOfIndex_of_lt _ within]
  · rw [exec_readTransformer h, xfOfIndex_of_le _ outside]
  · intro w2 one flag slot set
    refine ⟨setupImageBytes_eq, channelImageBytes_eq, fun e => ?_⟩
    rw [xfImageBytes_eq]
    simp only [slotBytes_eq]
    rfl
  · rw [xfImageBytes, ← xfFieldBytes_length x, List.take_left]
  · rw [State.answered, responseFrame, be8_result_code]
    rfl

/-! ### READ STATE (R169, R186) -/

section Serving
variable {s : State} (h : s.Serving) (source tag subject i : Byte)
include h

/-- READ STATE by its subject and index. -/
theorem exec_readState :
    let rq : Request := ⟨source, [0x09, tag, subject, i]⟩
    exec (.readState source tag [subject, i]) s = .next (
      if subject.toNat = 1 then
        match channelOfIndex i.toNat with
        | none => s.answered rq .badIndex 2 []
        | some c => s.answered rq .done 0 (channelStateBytes (s.kindOf c) (s.channel c))
      else if subject.toNat = 2 then
        match xfOfIndex i.toNat with
        | none => s.answered rq .badIndex 2 []
        | some t => s.answered rq .done 0 (xfStateBytes (s.xf t))
      else if subject.toNat = 3 then
        if i.toNat = 0 then s.answered rq .done 0 (stationStateBytes s.station) else s.answered rq .badIndex 2 []
      else s.answered rq .badIndex 1 []) := by
  have length : (requestBody 0x09 tag [subject, i]).length = 4 := rfl
  have index : u8 (requestBody 0x09 tag [subject, i]) 3 = i.toNat := rfl
  rw [exec, execReadState, intake_serving h]
  simp only [serveReadState, length, index, requestBody_u8_two, u8_cons_zero, ne_eq, not_true_eq_false, if_false]
  split_ifs
  · cases channelOfIndex i.toNat with
    | none => exact congrArg _ (arbiter_refuse_holdRequest _ _ _ _ s)
    | some c => exact congrArg _ (arbiter_respondDone_holdRequest _ _ _ s)
  · cases xfOfIndex i.toNat with
    | none => exact congrArg _ (arbiter_refuse_holdRequest _ _ _ _ s)
    | some t => exact congrArg _ (arbiter_respondDone_holdRequest _ _ _ s)
  · exact congrArg _ (arbiter_respondDone_holdRequest _ _ _ s)
  · exact congrArg _ (arbiter_refuse_holdRequest _ _ _ _ s)
  · exact congrArg _ (arbiter_refuse_holdRequest _ _ _ _ s)

end Serving

theorem optCycle_eq (v : Option Cycle) :
    optCycle v = match v with | some n => (1 : Byte) :: be16 n.toNat | none => [0, 0, 0] := by
  cases v <;> rfl

theorem signed32_eq (x : Int) :
    signed32 x = be16 ((BitVec.ofInt 32 x).toNat / 65536) ++ be16 (BitVec.ofInt 32 x).toNat := by
  rw [signed32, be32_eq_be16_append]

theorem optSigned16_eq (v : Option Int) :
    optSigned16 v = match v with | some n => be16 (BitVec.ofInt 16 n).toNat | none => [0x80, 0] := by
  cases v <;> rfl

theorem timerMsBytes_eq (v : Option Nat) :
    timerMsBytes v = match v with | some ticks => be16 ((ticks + 2) / 3) | none => [0xFF, 0xFF] := by
  cases v <;> rfl

theorem axisBytes_eq (v : Option (Int × Channel)) :
    axisBytes v = match v with
      | some (rate, c) => be16 (BitVec.ofInt 16 rate).toNat ++ [BitVec.ofNat 8 c.val]
      | none => [0x80, 0, 0xFF] := by
  obtain _ | ⟨rate, c⟩ := v <;> rfl

theorem normBytes_eq (v : Option Nat) : normBytes v = match v with | some n => be16 n | none => [0xFF, 0xFF] := by
  cases v <;> rfl

theorem holdBytes_eq (v : Option Nat) :
    holdBytes v = match v with | some ticks => be16 ((ticks + 2999) / 3000) | none => [0xFF, 0xFF] := by
  cases v <;> rfl

theorem be8_bits (v : SlotSet) :
    be8 v.bits = ([(if v[0] then 1 else 0) + (if v[1] then 2 else 0) + (if v[2] then 4 else 0)
      + (if v[3] then 8 else 0)] : List Byte) := by
  unfold SlotSet.bits
  cases v[0] <;> cases v[1] <;> cases v[2] <;> cases v[3] <;> rfl

theorem channelStateBytes_eq (kind : ChannelKind) (r : ChannelRec) :
    channelStateBytes kind r =
      ([match r.state with | .off => 0 | .valid => 1 | .settling => 2 | .suspect => 3 | .stale => 4 | .lost => 5] : List Byte)
        ++ signed32 r.y ++ signed16 r.mean ++ optCycle r.lastCycle ++ signed16 r.output ++ ([if r.clipped then 1 else 0] : List Byte)
        ++ [BitVec.ofNat 8 r.degraded, BitVec.ofNat 8 r.good, BitVec.ofNat 8 r.settle] ++ timerMsBytes r.staleTimer
        ++ timerMsBytes r.lostTimer ++ (if kind = .neutral then [] else secondBytes r.second) := by
  have field : (if kind.isField then secondBytes r.second else []) = if kind = .neutral then [] else secondBytes r.second := by
    cases kind <;> rfl
  rw [channelStateBytes, be8_channelState_rank, flagByte_eq, field]
  simp only [be8, List.append_assoc, List.cons_append, List.nil_append]

/-- A transformer's reply with its plain bytes gathered. -/
theorem xfStateBytes_eq (r : XfRec) :
    xfStateBytes r =
      flagByte r.inService ++ be8 r.quality.code ++ be8 r.waitSet.bits ++ optCycle r.pendingCycle ++ be8 r.marked.bits
        ++ optCycle r.lastCompleted ++ signed16 r.current ++ be16 r.magnitude
        ++ [BitVec.ofNat 8 r.levels.condition.num, BitVec.ofNat 8 r.levels.rise, BitVec.ofNat 8 r.levels.runFloor.num]
        ++ be16 r.levels.fall ++ [BitVec.ofNat 8 r.levels.runCeiling.num, BitVec.ofNat 8 r.reported.num]
        ++ flagByte r.unack ++ (be16 (r.secondSum / 65536) ++ be16 r.secondSum) ++ be8 r.secondCount ++ be16 r.theta
        ++ be8 r.thermal.num ++ be8 r.levels.setUsed.code := by
  unfold xfStateBytes
  rw [be32_eq_be16_append]
  simp only [be8, List.append_assoc, List.cons_append, List.nil_append]

theorem stationStateBytes_eq (r : StationRec) :
    stationStateBytes r =
      ([match r.state with | .calm => 0 | .watch => 1 | .storm => 2] : List Byte) ++ axisBytes r.xRate ++ axisBytes r.yRate
        ++ normBytes r.latestNorm ++ [BitVec.ofNat 8 r.watchRun] ++ holdBytes r.holdTimer
        ++ [BitVec.ofNat 8 r.alertCount] ++ ([if r.quorumMet then 1 else 0] : List Byte) := by
  rw [stationStateBytes, be8_station_rank, flagByte_eq]
  rfl

/-- Settles O18: each subject is one branch of the request's equation in a serving state, and each reply is its layout
with every field's bytes written out. -/
theorem readStateAnswersTheLiveRecord : Obligations.ReadStateAnswersTheLiveRecord := by
  intro s source tag i h
  have answer := fun subject => exec_readState h source tag subject i
  have one : (1 : Byte).toNat = 1 := rfl
  have two : (2 : Byte).toNat = 2 := rfl
  have three : (3 : Byte).toNat = 3 := rfl
  refine ⟨fun within => ?_, fun outside => ?_, fun within => ?_, fun outside => ?_, ?_, fun other => ?_,
    fun subject not1 not2 not3 => ?_, ?_⟩
  · rw [answer, if_pos one, channelOfIndex_of_lt _ within]
    rfl
  · rw [answer, if_pos one, channelOfIndex_of_le _ outside]
  · rw [answer, if_neg (by decide), if_pos two, xfOfIndex_of_lt _ within]
  · rw [answer, if_neg (by decide), if_pos two, xfOfIndex_of_le _ outside]
  · exact exec_readState h source tag 3 0
  · have nonzero : i.toNat ≠ 0 := fun zero => other (BitVec.eq_of_toNat_eq zero)
    rw [answer, if_neg (by decide), if_neg (by decide), if_pos three, if_neg nonzero]
  · rw [answer, if_neg fun e => not1 (BitVec.eq_of_toNat_eq (e.trans one.symm)),
      if_neg fun e => not2 (BitVec.eq_of_toNat_eq (e.trans two.symm)),
      if_neg fun e => not3 (BitVec.eq_of_toNat_eq (e.trans three.symm))]
  · intro w2 w4 i2 i4 one flag cycle mean ms slots axis
    refine ⟨fun kind r => ?_, fun r => ?_, fun r => ?_⟩
    · rw [channelStateBytes_eq]
      simp only [signed32_eq, optCycle_eq, timerMsBytes_eq, secondBytes, optSigned16_eq]
      rfl
    · rw [xfStateBytes_eq, be8_bits, be8_bits, be8_quality_code, be8_setUsed_code]
      simp only [optCycle_eq, flagByte_eq]
      rfl
    · rw [stationStateBytes_eq]
      simp only [axisBytes_eq, normBytes_eq, holdBytes_eq]
      rfl

end Sys2Proof.Machine

/-! PROOF. Field bytes in range are the bytes of the record they read as (R170, R185), and the first field out of range is
the one that a write is refused with (R171, R173). -/

namespace Sys2Proof.Machine

/-! ### The first field out of range, by the ranges -/

/-- A list of tests in field-number order that says of each field whether it is in range. -/
structure TestsOf (inRange : Nat → Prop) (tests : List (Nat × Bool)) : Prop where
  order : tests.Pairwise fun a b => a.1 < b.1
  agree : ∀ q ∈ tests, q.2 = true ↔ inRange q.1
  covers : ∀ n, n ∉ tests.map Prod.fst → inRange n

namespace TestsOf

variable {inRange : Nat → Prop} {tests : List (Nat × Bool)}

theorem firstFault_eq_some (h : TestsOf inRange tests) {n : Nat} (out : ¬inRange n) (lower : ∀ k, k < n → inRange k) :
    firstFault tests = some n := by
  obtain ⟨⟨m, ok⟩, mem, rfl⟩ : ∃ q ∈ tests, q.1 = n := by
    by_contra absent
    exact out (h.covers n fun mem => absent (List.mem_map.1 mem))
  have fails : ok = false := Bool.eq_false_iff.2 fun holds => out ((h.agree _ mem).1 holds)
  exact Machine.firstFault_eq_some tests m h.order (fails ▸ mem) fun q hq less => (h.agree q hq).2 (lower q.1 less)

theorem firstFault_eq_none (h : TestsOf inRange tests) (all : ∀ n, inRange n) : firstFault tests = none :=
  (Machine.firstFault_eq_none tests).2 fun q hq => (h.agree q hq).2 (all q.1)

end TestsOf

/-! ### The bytes at a place -/

/-- The `n` bytes of `p` from byte `i` on. -/
def bytesAt (p : List Byte) (i n : Nat) : List Byte := (p.drop i).take n

theorem bytesAt_append (p : List Byte) (i m n : Nat) : bytesAt p i m ++ bytesAt p (i + m) n = bytesAt p i (m + n) := by
  unfold bytesAt
  rw [← List.drop_drop, ← List.take_add]

theorem bytesAt_zero (p : List Byte) (n : Nat) : bytesAt p 0 n = p.take n := rfl

theorem take_append_bytesAt (p : List Byte) (m n : Nat) : p.take m ++ bytesAt p m n = p.take (m + n) :=
  List.take_add.symm

section
variable {p : List Byte} {i : Nat}

theorem bytesAt_one (h : i < p.length) : bytesAt p i 1 = [p.getD i 0] := by
  rw [bytesAt, List.drop_eq_getElem_cons h, List.getD_eq_getElem p 0 h]
  rfl

theorem be8_u8 (h : i < p.length) : be8 (u8 p i) = bytesAt p i 1 := by
  rw [bytesAt_one h, be8, u8, BitVec.ofNat_toNat, BitVec.setWidth_eq]

theorem be16_u16 (h : i + 1 < p.length) : be16 (u16 p i) = bytesAt p i 2 := by
  rw [← bytesAt_append p i 1 1, bytesAt_one (by omega), bytesAt_one h, u16]
  exact be16_of_bytes _ _

theorem signed8_s8 (h : i < p.length) : signed8 (s8 p i) = bytesAt p i 1 := by
  rw [signed8_eq, s8, BitVec.ofInt_toInt]
  exact be8_u8 h

theorem u16_lt (p : List Byte) (i : Nat) : u16 p i < 65536 := by
  have := (p.getD i 0).isLt
  have := (p.getD (i + 1) 0).isLt
  unfold u16 u8
  omega

theorem u8_lt (p : List Byte) (i : Nat) : u8 p i < 256 := (p.getD i 0).isLt

theorem signed16_s16 (h : i + 1 < p.length) : signed16 (s16 p i) = bytesAt p i 2 := by
  have read : (BitVec.ofNat 16 (u16 p i)).toNat = u16 p i := Nat.mod_eq_of_lt (u16_lt p i)
  rw [← be16_u16 h, signed16, s16, BitVec.ofInt_toInt, read]

theorem flagByte_u8 (h : i < p.length) (range : u8 p i ≤ 1) : flagByte (u8 p i == 1) = bytesAt p i 1 := by
  rw [← be8_u8 h]
  unfold flagByte
  have cases' : u8 p i = 0 ∨ u8 p i = 1 := by omega
  obtain zero | one := cases'
  · rw [zero]; rfl
  · rw [one]; rfl

end

theorem ChannelKind.code_ofCode {n : Nat} (h : n ≤ 2) : (ChannelKind.ofCode n).code = n := by
  interval_cases n <;> rfl

theorem Polarity.code_ofCode {n : Nat} (h : n ≤ 1) : (Polarity.ofCode n).code = n := by
  interval_cases n <;> rfl

theorem GuardSpan.code_ofCode {n : Nat} (h : n ≤ 3) : (GuardSpan.ofCode n).code = n := by
  interval_cases n <;> rfl

/-! ### Records read from fields in range -/

/-- Ten bytes or more with every setup field in range read as a setup record in range that they are the bytes of. -/
theorem setupOfFields_spec {p : List Byte} (length : 10 ≤ p.length) (ok : setupFieldFault p = none) (span : GuardSpan)
    (lock : Bool) :
    (setupOfFields p span lock).InRange ∧ setupFieldBytes (setupOfFields p span lock) = p.take 10 := by
  unfold setupFieldFault at ok
  simp only [firstFault_eq_none, List.forall_mem_cons, decide_eq_true_eq, List.not_mem_nil, false_imp_iff, implies_true,
    and_true] at ok
  obtain ⟨freq, interval, capture, watch, storm, hold, quorum⟩ := ok
  refine ⟨⟨freq, interval, capture, ⟨watch, storm, Nat.le_of_lt_succ (u16_lt p 5)⟩, hold, quorum⟩, ?_⟩
  unfold setupFieldBytes setupOfFields
  dsimp only
  rw [be8_u8 (i := 0) (by omega), be8_u8 (i := 1) (by omega), be8_u8 (i := 2) (by omega), be16_u16 (i := 3) (by omega),
    be16_u16 (i := 5) (by omega), be16_u16 (i := 7) (by omega), be8_u8 (i := 9) (by omega)]
  simp only [bytesAt_zero, take_append_bytesAt, Nat.reduceAdd]

theorem s16_ge (p : List Byte) (i : Nat) : -32768 ≤ s16 p i := (BitVec.ofNat 16 (u16 p i)).le_toInt

theorem s16_le (p : List Byte) (i : Nat) : s16 p i ≤ 32767 := Int.le_of_lt_add_one (BitVec.ofNat 16 (u16 p i)).toInt_lt

/-- Twelve bytes or more with every channel field in range read as an entry in range that they are the bytes of. -/
theorem channelOfFields_spec {p : List Byte} (length : 12 ≤ p.length) (ok : channelFieldFault p = none)
    (inService : Bool) :
    (channelOfFields p inService).InRange ∧ channelFieldBytes (channelOfFields p inService) = p.take 12 := by
  unfold channelFieldFault at ok
  simp only [firstFault_eq_none, List.forall_mem_cons, decide_eq_true_eq, List.not_mem_nil, false_imp_iff, implies_true,
    and_true] at ok
  obtain ⟨kind, input, gain, offset, polarity, shift, limit⟩ := ok
  have low := s16_ge p 6
  have high := s16_le p 6
  refine ⟨⟨Nat.le_of_lt_succ (u16_lt p 1), input, ⟨Nat.one_le_iff_ne_zero.2 gain, Nat.le_of_lt_succ (u16_lt p 4)⟩,
    ⟨by dsimp only [channelOfFields]; omega, high⟩, shift, limit⟩, ?_⟩
  unfold channelFieldBytes channelOfFields
  dsimp only
  rw [ChannelKind.code_ofCode kind, Polarity.code_ofCode polarity, be8_u8 (i := 0) (by omega),
    be16_u16 (i := 1) (by omega), be8_u8 (i := 3) (by omega), be16_u16 (i := 4) (by omega),
    signed16_s16 (i := 6) (by omega), be8_u8 (i := 8) (by omega), be8_u8 (i := 9) (by omega),
    be16_u16 (i := 10) (by omega)]
  simp only [bytesAt_zero, take_append_bytesAt, Nat.reduceAdd]

theorem slotChannelOk_iff (p : List Byte) (i : Nat) : slotChannelOk p i = true ↔ u8 p i < 40 ∨ u8 p i = 255 := by
  unfold slotChannelOk
  rw [Bool.or_eq_true, decide_eq_true_eq, beq_iff_eq]

theorem slotWeightOk_iff (p : List Byte) (i : Nat) :
    slotWeightOk p i = true ↔ -8 ≤ s8 p (i + 1) ∧ s8 p (i + 1) ≤ 8 ∧ (u8 p i = 255 ↔ s8 p (i + 1) = 0) := by
  unfold slotWeightOk
  rw [Bool.and_eq_true, Bool.and_eq_true, decide_eq_true_eq, decide_eq_true_eq, beq_iff_eq, Bool.eq_iff_iff, beq_iff_eq,
    beq_iff_eq, and_assoc]

/-- A slot's two bytes in range read as a slot in range that they are the bytes of. -/
theorem slotOfFields_spec {p : List Byte} {i : Nat} (length : i + 1 < p.length) (channel : slotChannelOk p i = true)
    (weight : slotWeightOk p i = true) :
    (slotOfFields p i).InRange ∧ slotBytes (slotOfFields p i) = bytesAt p i 2 := by
  have range : u8 p i < 40 ∨ u8 p i = 255 := (slotChannelOk_iff p i).1 channel
  obtain ⟨low, high, empty⟩ := (slotWeightOk_iff p i).1 weight
  have bytes : slotBytes (slotOfFields p i) = be8 (u8 p i) ++ signed8 (s8 p (i + 1)) := by
    unfold slotBytes slotOfFields
    dsimp only
    obtain used | unused := range
    · rw [channelOfIndex_of_lt _ used]
    · rw [unused]
      rfl
  refine ⟨⟨low, high, ?_⟩, ?_⟩
  · have none : channelOfIndex (u8 p i) = none ↔ u8 p i = 255 := by
      obtain used | unused := range
      · rw [channelOfIndex_of_lt _ used]
        exact iff_of_false nofun (by omega)
      · exact iff_of_true (channelOfIndex_of_le _ (by omega)) unused
    exact none.trans empty
  · rw [bytes, be8_u8 (by omega), signed8_s8 length, bytesAt_append]

/-- A threshold set's eight bytes in range read as a set in range that they are the bytes of. -/
theorem thresholdOfFields_spec {p : List Byte} {n i : Nat} (length : i + 7 < p.length)
    (ok : ∀ q ∈ thresholdTests p n i, q.2 = true) :
    (thresholdOfFields p i).InRange ∧ thresholdBytes (thresholdOfFields p i) = bytesAt p i 8 := by
  unfold thresholdTests at ok
  simp only [List.forall_mem_cons, decide_eq_true_eq, List.not_mem_nil, false_imp_iff, implies_true, and_true] at ok
  obtain ⟨⟨first, -⟩, ⟨second, -⟩, ⟨third, top⟩, hysteresis⟩ := ok
  refine ⟨⟨first, second, third, top, hysteresis⟩, ?_⟩
  unfold thresholdBytes thresholdOfFields
  dsimp only
  rw [be16_u16 (i := i) (by omega), be16_u16 (i := i + 2) (by omega), be16_u16 (i := i + 4) (by omega),
    be16_u16 (i := i + 6) (by omega), bytesAt_append, bytesAt_append p i 4 2, bytesAt_append p i 6 2]

/-- Thirty-five bytes or more with every transformer field in range read as an entry in range that they are the bytes
of. -/
theorem xfOfFields_spec {p : List Byte} (length : 35 ≤ p.length) (ok : xfFieldFault p = none) (inService : Bool) :
    (xfOfFields p inService).InRange ∧ xfFieldBytes (xfOfFields p inService) = p.take 35 := by
  unfold xfFieldFault at ok
  rw [firstFault_eq_none, List.forall_mem_append, List.forall_mem_append, List.forall_mem_append] at ok
  obtain ⟨⟨⟨slots, normal⟩, storm⟩, rest⟩ := ok
  simp only [List.forall_mem_cons, List.not_mem_nil, false_imp_iff, implies_true, and_true] at slots
  obtain ⟨channel0, weight0, channel1, weight1, channel2, weight2, channel3, weight3⟩ := slots
  unfold persistenceAndThermalTests at rest
  simp only [List.forall_mem_cons, decide_eq_true_eq, List.not_mem_nil, false_imp_iff, implies_true, and_true] at rest
  obtain ⟨rise, fall, latch, coefficient, shift, alert, alarm⟩ := rest
  obtain ⟨range0, bytes0⟩ := slotOfFields_spec (i := 0) (by omega) channel0 weight0
  obtain ⟨range1, bytes1⟩ := slotOfFields_spec (i := 2) (by omega) channel1 weight1
  obtain ⟨range2, bytes2⟩ := slotOfFields_spec (i := 4) (by omega) channel2 weight2
  obtain ⟨range3, bytes3⟩ := slotOfFields_spec (i := 6) (by omega) channel3 weight3
  obtain ⟨normalRange, normalBytes⟩ := thresholdOfFields_spec (i := 8) (by omega) normal
  obtain ⟨stormRange, stormBytes⟩ := thresholdOfFields_spec (i := 16) (by omega) storm
  refine ⟨⟨?_, normalRange, stormRange, ⟨rise, Nat.le_of_lt_succ (u8_lt p 24)⟩, fall, coefficient, shift, alert, alarm,
    Nat.le_of_lt_succ (u16_lt p 33)⟩, ?_⟩
  · intro i
    fin_cases i
    · exact range0
    · exact range1
    · exact range2
    · exact range3
  · show slotBytes (slotOfFields p 0) ++ slotBytes (slotOfFields p 2) ++ slotBytes (slotOfFields p 4)
      ++ slotBytes (slotOfFields p 6) ++ thresholdBytes (thresholdOfFields p 8) ++ thresholdBytes (thresholdOfFields p 16)
      ++ be8 (u8 p 24) ++ be16 (u16 p 25) ++ flagByte (u8 p 27 == 1) ++ be16 (u16 p 28) ++ be8 (u8 p 30)
      ++ be16 (u16 p 31) ++ be16 (u16 p 33) = p.take 35
    rw [bytes0, bytes1, bytes2, bytes3, normalBytes, stormBytes, be8_u8 (i := 24) (by omega),
      be16_u16 (i := 25) (by omega), flagByte_u8 (i := 27) (by omega) latch, be16_u16 (i := 28) (by omega),
      be8_u8 (i := 30) (by omega), be16_u16 (i := 31) (by omega), be16_u16 (i := 33) (by omega)]
    simp only [bytesAt_zero, take_append_bytesAt, Nat.reduceAdd]

end Sys2Proof.Machine

/-! PROOF. The requests that write (R170 to R176): what each answers in a serving state, check by check in the order of its
checks, and the store write that it begins. -/

namespace Sys2Proof.Machine

/-! ### The guard span (R175) -/

theorem GuardSpan.guardsChannel_iff (g : GuardSpan) (c : Channel) :
    g.guardsChannel c = true ↔ match g with
      | .none => False | .topQuarter => 30 ≤ c.val | .topHalf => 20 ≤ c.val | .all => True := by
  cases g <;> simp [guardsChannel]

theorem GuardSpan.guardsXf_iff (g : GuardSpan) (t : Xf) :
    g.guardsXf t = true ↔ match g with
      | .none => False | .topQuarter => 12 ≤ t.val | .topHalf => 8 ≤ t.val | .all => True := by
  cases g <;> simp [guardsXf]

theorem GuardSpan.guardsSetup_iff (g : GuardSpan) : g.guardsSetup = true ↔ g = .all := beq_iff_eq

theorem State.anyChannelInService_iff (s : State) :
    s.anyChannelInService = true ↔ ∃ c : Channel, (s.channel c).state ≠ .off := by
  simp [anyChannelInService, State.channel]

/-! ### WRITE SETUP (R171) -/

/-- The tests of `setupFieldFault`. -/
def setupTests (p : List Byte) : List (Nat × Bool) :=
  [(1, u8 p 0 = 50 ∨ u8 p 0 = 60), (2, 1 ≤ u8 p 1 ∧ u8 p 1 ≤ 60), (3, u8 p 2 ≤ 4), (4, 1 ≤ u16 p 3),
    (5, u16 p 3 < u16 p 5), (6, 60 ≤ u16 p 7 ∧ u16 p 7 ≤ 7200), (7, u8 p 9 ≤ 16)]

theorem setupFieldFault_eq (p : List Byte) : setupFieldFault p = firstFault (setupTests p) := rfl

section
variable {s : State} (h : s.Serving) (source tag : Byte)
include h

theorem exec_writeSetup {p : List Byte} (length : p.length = 10) :
    let rq : Request := ⟨source, requestBody 0x02 tag p⟩
    exec (.writeSetup source tag p) s = .next (
      if s.setup.guardSpan.guardsSetup then s.answered rq .guarded 0 []
      else if u8 p 0 ≠ s.setup.freq ∧ s.anyChannelInService then s.answered rq .inService 0 []
      else match setupFieldFault p with
        | some n => s.answered rq .badValue n []
        | none => s.awaiting rq (.setup (setupOfFields p s.setup.guardSpan s.setup.lockFlag))) := by
  have whole : (requestBody 0x02 tag p).length = 12 := by rw [requestBody_length, length]
  rw [exec, execWriteSetup, intake_serving h]
  simp only [serveWriteSetup, whole, requestBody_drop_two, holdRequest_setup, holdRequest_anyChannelInService, ne_eq,
    not_true_eq_false, if_false]
  by_cases guarded : s.setup.guardSpan.guardsSetup
  · simp only [guarded, if_true]
    exact congrArg _ (arbiter_refuse_holdRequest _ _ _ _ s)
  by_cases refused : ¬u8 p 0 = s.setup.freq ∧ s.anyChannelInService
  · simp only [guarded, refused, if_false, if_true, Bool.false_eq_true, not_false_eq_true, and_self]
    exact congrArg _ (arbiter_refuse_holdRequest _ _ _ _ s)
  · simp only [guarded, refused, if_false, Bool.false_eq_true]
    cases setupFieldFault p with
    | some n => exact congrArg _ (arbiter_refuse_holdRequest _ _ _ _ s)
    | none => rfl

end

/-- Settles O19: the clauses are the branches of the request's equation; the ranges are the tests of `setupFieldFault`. -/
theorem writeSetupIsCheckedAndBegun : Obligations.WriteSetupIsCheckedAndBegun := by
  intro s source tag p h length b w inRange
  have answer := exec_writeSetup h source tag length
  have tests : TestsOf inRange (setupTests p) := {
    order := by simp [setupTests]
    agree := by
      simp only [setupTests, List.forall_mem_cons, decide_eq_true_eq, List.not_mem_nil, false_imp_iff, implies_true,
        and_true]
      exact ⟨.rfl, .rfl, .rfl, .rfl, .rfl, .rfl, .rfl⟩
    covers := fun n absent => by
      dsimp only [inRange]
      split
      case h_8 => trivial
      all_goals exact absurd (by simp [setupTests]) absent }
  have opened : s.setup.guardSpan ≠ .all → ¬s.setup.guardSpan.guardsSetup = true := mt (GuardSpan.guardsSetup_iff _).1
  have allowed : (u8 p 0 = s.setup.freq ∨ ∀ c, (s.channel c).state = .off) →
      ¬(u8 p 0 ≠ s.setup.freq ∧ s.anyChannelInService) := fun same ⟨differs, any⟩ => by
    obtain ⟨c, on⟩ := (State.anyChannelInService_iff s).1 any
    exact same.elim differs fun off => on (off c)
  refine ⟨fun all => ?_, fun other differs on => ?_, fun n other same fault => ?_, fun e other same range bytes => ?_,
    fun n other same out lower => ?_, fun all => ?_, fun u rq v => rfl⟩
  · rw [answer, if_pos ((GuardSpan.guardsSetup_iff _).2 all)]
  · rw [answer, if_neg (opened other), if_pos ⟨differs, (State.anyChannelInService_iff s).2 on⟩]
  · rw [answer, if_neg (opened other), if_neg (allowed same), fault]
  · obtain ⟨ok, read⟩ := setupFieldBytes_read e range [] s.setup.guardSpan s.setup.lockFlag
    rw [List.append_nil, ← bytes] at ok read
    have freq : u8 p 0 = e.freq := congrArg Setup.freq read
    rw [answer, if_neg (opened other), if_neg (allowed (freq ▸ same)), ok, read]
  · have fault : setupFieldFault p = some n := (setupFieldFault_eq p).trans (tests.firstFault_eq_some out lower)
    rw [answer, if_neg (opened other), if_neg (allowed same), fault]
  · obtain ⟨range, bytes⟩ := setupOfFields_spec length.ge (tests.firstFault_eq_none all) .none false
    exact ⟨_, range, by rw [bytes, ← length, List.take_length]⟩

/-! ### WRITE CHANNEL (R2, R173) -/

/-- The tests of `channelFieldFault`. -/
def channelTests (p : List Byte) : List (Nat × Bool) :=
  [(1, u8 p 0 ≤ 2), (3, u8 p 3 ≤ 15), (4, u16 p 4 ≠ 0), (5, s16 p 6 ≠ -32768), (6, u8 p 8 ≤ 1), (7, u8 p 9 ≤ 7),
    (8, 10 ≤ u16 p 10 ∧ u16 p 10 ≤ 3000)]

theorem channelFieldFault_eq (p : List Byte) : channelFieldFault p = firstFault (channelTests p) := rfl

theorem XfEntry.slotOf_isSome_iff (e : XfEntry) (c : Channel) :
    (e.slotOf c).isSome = true ↔ ∃ j : Slot, e.slots[j].channel = some c := by
  simp [slotOf, List.find?_isSome]

theorem isMember_iff (s : State) (c : Channel) :
    isMember s c = true ↔ ∃ (x : Xf) (j : Slot), (s.xfEntry x).slots[j].channel = some c := by
  simp [isMember, XfEntry.slotOf_isSome_iff]

theorem sourcePairTaken_iff (s : State) (c : Channel) (e : ChannelEntry) :
    sourcePairTaken s c e = true ↔ e.sensorId ≠ 0 ∧
      ∃ o : Channel, o ≠ c ∧ (s.channelEntry o).sensorId = e.sensorId ∧ (s.channelEntry o).input = e.input := by
  simp [sourcePairTaken]

theorem channelRuleFault_eq (s : State) (c : Channel) (e : ChannelEntry) :
    channelRuleFault s c e =
      if sourcePairTaken s c e then some 2 else if e.kind ≠ s.kindOf c ∧ isMember s c then some 1 else none := by
  unfold channelRuleFault
  cases sourcePairTaken s c e <;> cases isMember s c <;> by_cases same : e.kind = s.kindOf c <;> simp [firstFault, same]

section
variable {s : State} (h : s.Serving) (source tag : Byte)
include h

theorem exec_writeChannel (n : Byte) {p : List Byte} (length : p.length = 12) :
    let rq : Request := ⟨source, requestBody 0x04 tag (n :: p)⟩
    exec (.writeChannel source tag (n :: p)) s = .next (
      match channelOfIndex n.toNat with
      | none => s.answered rq .badIndex 1 []
      | some c =>
        if s.setup.guardSpan.guardsChannel c then s.answered rq .guarded 0 []
        else if (s.channel c).state ≠ .off then s.answered rq .inService 0 []
        else match channelFieldFault p with
          | some k => s.answered rq .badValue k []
          | none =>
            match channelRuleFault s c (channelOfFields p false) with
            | some k => s.answered rq .badValue k []
            | none => s.awaiting rq (.channelEntry c (channelOfFields p false))) := by
  have whole : (requestBody 0x04 tag (n :: p)).length = 15 := by rw [requestBody_length, List.length_cons, length]
  rw [exec, execWriteChannel, intake_serving h]
  simp only [serveWriteChannel, whole, requestBody_u8_two, u8_cons_zero, ne_eq, not_true_eq_false, if_false]
  cases channelOfIndex n.toNat with
  | none => exact congrArg _ (arbiter_refuse_holdRequest _ _ _ _ s)
  | some c =>
    have rule : ∀ rq e, channelRuleFault (holdRequest rq s) c e = channelRuleFault s c e := fun _ _ => rfl
    simp only [writeChannelEntry, requestBody_drop_three, List.drop_succ_cons, List.drop_zero, holdRequest_setup,
      holdRequest_channel, rule, ne_eq]
    by_cases guarded : s.setup.guardSpan.guardsChannel c
    · simp only [guarded, if_true]
      exact congrArg _ (arbiter_refuse_holdRequest _ _ _ _ s)
    by_cases off : (s.channel c).state = .off
    · simp only [guarded, off, if_false, Bool.false_eq_true, not_true_eq_false]
      cases channelFieldFault p with
      | some k => exact congrArg _ (arbiter_refuse_holdRequest _ _ _ _ s)
      | none =>
        cases channelRuleFault s c (channelOfFields p false) with
        | some k => exact congrArg _ (arbiter_refuse_holdRequest _ _ _ _ s)
        | none => rfl
    · simp only [guarded, off, if_false, if_true, Bool.false_eq_true, not_false_eq_true]
      exact congrArg _ (arbiter_refuse_holdRequest _ _ _ _ s)

end

theorem toNat_ofNat_of_lt {n : Nat} (h : n < 256) : (BitVec.ofNat 8 n : Byte).toNat = n :=
  (BitVec.toNat_ofNat n 8).trans (Nat.mod_eq_of_lt h)

/-- The most negative 16-bit number is the one whose bytes read 0x8000. -/
theorem s16_ne_iff (p : List Byte) (i : Nat) : s16 p i ≠ -32768 ↔ u16 p i ≠ 32768 := by
  have bound := u16_lt p i
  have read : (BitVec.ofNat 16 (u16 p i)).toNat = u16 p i := Nat.mod_eq_of_lt bound
  rw [s16, BitVec.toInt_eq_toNat_cond, read]
  split_ifs <;> omega

/-- Settles O20: the clauses are the branches of the request's equation; the ranges are the tests of `channelFieldFault`,
and the rules across entries follow them in the order of `channelRuleFault`. -/
theorem writeChannelIsCheckedAndBegun : Obligations.WriteChannelIsCheckedAndBegun := by
  intro s source tag c p h length i rq guarded b w inRange
  have index : i.toNat = c.val := toNat_ofNat_of_lt (by omega)
  have answer := exec_writeChannel h source tag i length
  rw [index, channelOfIndex_val] at answer
  have tests : TestsOf inRange (channelTests p) := {
    order := by simp [channelTests]
    agree := by
      simp only [channelTests, List.forall_mem_cons, decide_eq_true_eq, List.not_mem_nil, false_imp_iff, implies_true,
        and_true]
      exact ⟨.rfl, .rfl, .rfl, s16_ne_iff p 6, .rfl, .rfl, .rfl⟩
    covers := fun n absent => by
      dsimp only [inRange]
      split
      case h_8 => trivial
      all_goals exact absurd (by simp [channelTests]) absent }
  have opened : guarded = false → ¬s.setup.guardSpan.guardsChannel c = true := fun unguarded => by
    rw [show s.setup.guardSpan.guardsChannel c = false from unguarded]
    nofun
  refine ⟨GuardSpan.guardsChannel_iff _ c, fun n unguarded off out lower => ?_, fun all => ?_, fun n outside => ?_,
    fun on => ?_, fun unguarded on => ?_, fun n unguarded off fault => ?_, fun e unguarded off range bytes => ?_⟩
  · have fault : channelFieldFault p = some n := (channelFieldFault_eq p).trans (tests.firstFault_eq_some out lower)
    rw [answer]
    dsimp only
    rw [if_neg (opened unguarded), if_neg (not_not.2 off), fault]
  · obtain ⟨range, bytes⟩ := channelOfFields_spec length.ge (tests.firstFault_eq_none all) false
    exact ⟨_, range, by rw [bytes, ← length, List.take_length]⟩
  · rw [exec_writeChannel h source tag n length, channelOfIndex_of_le _ outside]
  · rw [answer]
    exact congrArg _ (if_pos on)
  · rw [answer]
    dsimp only
    rw [if_neg (opened unguarded), if_pos on]
  · rw [answer]
    dsimp only
    rw [if_neg (opened unguarded), if_neg (not_not.2 off), fault]
  · obtain ⟨ok, read⟩ := channelFieldBytes_read e range [] false
    rw [List.append_nil, ← bytes] at ok read
    dsimp only at answer
    rw [if_neg (opened unguarded), if_neg (not_not.2 off), ok, read] at answer
    intro pairTaken member
    have taken : sourcePairTaken s c { e with inService := false } ↔ e.sensorId ≠ 0 ∧ pairTaken :=
      sourcePairTaken_iff s c _
    have shut : e.sensorId = 0 ∨ ¬pairTaken → ¬sourcePairTaken s c { e with inService := false } :=
      fun free holds => free.elim (taken.1 holds).1 (· (taken.1 holds).2)
    rw [channelRuleFault_eq] at answer
    refine ⟨fun used pair => ?_, fun free differs is => ?_, fun free same => ?_⟩
    · rw [answer, if_pos (taken.2 ⟨used, pair⟩)]
    · rw [answer, if_neg (shut free), if_pos ⟨differs, (isMember_iff s c).2 is⟩]
    · rw [answer, if_neg (shut free),
        if_neg fun fault => same.elim fault.1 fun no => no ((isMember_iff s c).1 fault.2)]

end Sys2Proof.Machine

/-! PROOF. The writes of a transformer entry, of a service change and of the guard span (R31, R173, R174, R176). -/

namespace Sys2Proof.Machine

/-! ### WRITE TRANSFORMER (R30, R31, R173) -/

/-- The tests of `xfFieldFault`. -/
def xfTests (p : List Byte) : List (Nat × Bool) :=
  [(1, slotChannelOk p 0), (2, slotWeightOk p 0), (3, slotChannelOk p 2), (4, slotWeightOk p 2),
      (5, slotChannelOk p 4), (6, slotWeightOk p 4), (7, slotChannelOk p 6), (8, slotWeightOk p 6)]
    ++ thresholdTests p 9 8 ++ thresholdTests p 13 16 ++ persistenceAndThermalTests p

theorem xfFieldFault_eq (p : List Byte) : xfFieldFault p = firstFault (xfTests p) := rfl

theorem namedEarlier_iff (e : XfEntry) (i : Slot) (c : Channel) :
    namedEarlier e i c = true ↔ ∃ k : Slot, k < i ∧ e.slots[k].channel = some c := by
  simp [namedEarlier]

theorem memberElsewhere_iff (s : State) (t : Xf) (c : Channel) :
    memberElsewhere s t c = true ↔ ∃ (o : Xf) (k : Slot), o ≠ t ∧ (s.xfEntry o).slots[k].channel = some c := by
  simp [memberElsewhere, XfEntry.slotOf_isSome_iff]

theorem slotRuleOk_iff (s : State) (t : Xf) (e : XfEntry) (i : Slot) :
    slotRuleOk s t e i = true ↔ ¬s.SlotRefused t e i := by
  unfold slotRuleOk State.SlotRefused
  cases e.slots[i].channel with
  | none => simp
  | some c =>
    dsimp only
    rw [Bool.and_eq_true, Bool.and_eq_true, beq_iff_eq, Bool.not_eq_true', Bool.not_eq_true', ← Bool.not_eq_true,
      ← Bool.not_eq_true, namedEarlier_iff, memberElsewhere_iff, State.kindOf]
    simp only [Option.some.injEq, exists_eq_left', not_or, not_not, ne_eq, and_assoc]

/-- The tests of `xfRuleFault` say of each slot's channel field whether a membership test refuses the slot. -/
theorem xfRuleFault_tests (s : State) (t : Xf) (e : XfEntry) :
    TestsOf (fun n => ∀ j : Slot, n = 2 * j.val + 1 → ¬s.SlotRefused t e j)
      [(1, slotRuleOk s t e 0), (3, slotRuleOk s t e 1), (5, slotRuleOk s t e 2), (7, slotRuleOk s t e 3)] where
  order := by simp
  agree := by
    have field : ∀ i : Slot, slotRuleOk s t e i = true ↔ ∀ j : Slot, 2 * i.val + 1 = 2 * j.val + 1 → ¬s.SlotRefused t e j :=
      fun i => (slotRuleOk_iff s t e i).trans
        ⟨fun ok j same => (Fin.ext (by omega : i.val = j.val)) ▸ ok, fun all => all i rfl⟩
    simp only [List.forall_mem_cons, List.not_mem_nil, false_imp_iff, implies_true, and_true]
    exact ⟨field 0, field 1, field 2, field 3⟩
  covers := by
    intro n absent j same
    have : j.val = 0 ∨ j.val = 1 ∨ j.val = 2 ∨ j.val = 3 := by omega
    exact absurd (by simp; omega) absent

theorem xfRuleFault_eq_some {s : State} {t : Xf} {e : XfEntry} {j : Slot} (refused : s.SlotRefused t e j)
    (first : ∀ k : Slot, k < j → ¬s.SlotRefused t e k) : xfRuleFault s t e = some (2 * j.val + 1) :=
  (xfRuleFault_tests s t e).firstFault_eq_some (fun all => all j rfl refused)
    fun n less k same => first k (Fin.lt_def.2 (by omega))

theorem xfRuleFault_eq_none {s : State} {t : Xf} {e : XfEntry} (free : ∀ j : Slot, ¬s.SlotRefused t e j) :
    xfRuleFault s t e = none :=
  (xfRuleFault_tests s t e).firstFault_eq_none fun _ j _ => free j

section
variable {s : State} (h : s.Serving) (source tag : Byte)
include h

theorem exec_writeTransformer (n : Byte) {p : List Byte} (length : p.length = 35) :
    let rq : Request := ⟨source, requestBody 0x06 tag (n :: p)⟩
    exec (.writeTransformer source tag (n :: p)) s = .next (
      match xfOfIndex n.toNat with
      | none => s.answered rq .badIndex 1 []
      | some t =>
        if s.setup.guardSpan.guardsXf t then s.answered rq .guarded 0 []
        else if (s.xf t).inService then s.answered rq .inService 0 []
        else match xfFieldFault p with
          | some k => s.answered rq .badValue k []
          | none =>
            match xfRuleFault s t (xfOfFields p false) with
            | some k => s.answered rq .badValue k []
            | none => s.awaiting rq (.xfEntry t (xfOfFields p false))) := by
  have whole : (requestBody 0x06 tag (n :: p)).length = 38 := by rw [requestBody_length, List.length_cons, length]
  rw [exec, execWriteTransformer, intake_serving h]
  simp only [serveWriteTransformer, whole, requestBody_u8_two, u8_cons_zero, ne_eq, not_true_eq_false, if_false]
  cases xfOfIndex n.toNat with
  | none => exact congrArg _ (arbiter_refuse_holdRequest _ _ _ _ s)
  | some t =>
    have rule : ∀ rq e, xfRuleFault (holdRequest rq s) t e = xfRuleFault s t e := fun _ _ => rfl
    simp only [writeXfEntry, requestBody_drop_three, List.drop_succ_cons, List.drop_zero, holdRequest_setup,
      holdRequest_xf, rule]
    by_cases guarded : s.setup.guardSpan.guardsXf t
    · simp only [guarded, if_true]
      exact congrArg _ (arbiter_refuse_holdRequest _ _ _ _ s)
    by_cases serves : (s.xf t).inService
    · simp only [guarded, serves, if_false, if_true, Bool.false_eq_true]
      exact congrArg _ (arbiter_refuse_holdRequest _ _ _ _ s)
    · simp only [guarded, serves, if_false, Bool.false_eq_true]
      cases xfFieldFault p with
      | some k => exact congrArg _ (arbiter_refuse_holdRequest _ _ _ _ s)
      | none =>
        cases xfRuleFault s t (xfOfFields p false) with
        | some k => exact congrArg _ (arbiter_refuse_holdRequest _ _ _ _ s)
        | none => rfl

end

/-- Settles O21: the clauses are the branches of the request's equation; the ranges are the tests of `xfFieldFault`, and
the membership tests follow them slot by slot. -/
theorem writeTransformerIsCheckedAndBegun : Obligations.WriteTransformerIsCheckedAndBegun := by
  intro s source tag x p h length i rq guarded b w slotChannel slotWeight inRange
  have index : i.toNat = x.val := toNat_ofNat_of_lt (by omega)
  have answer := exec_writeTransformer h source tag i length
  rw [index, xfOfIndex_val] at answer
  dsimp only at answer
  have weight : ∀ j, slotWeightOk p j = true ↔ slotWeight j := fun j => by
    rw [slotWeightOk_iff, ← and_assoc, and_comm (a := -8 ≤ _), and_assoc]
    exact .rfl
  have tests : TestsOf inRange (xfTests p) := {
    order := by simp [xfTests, thresholdTests, persistenceAndThermalTests]
    agree := by
      simp only [xfTests, thresholdTests, persistenceAndThermalTests, List.cons_append, List.nil_append,
        List.forall_mem_cons, decide_eq_true_eq, List.not_mem_nil, false_imp_iff, implies_true, and_true]
      exact ⟨slotChannelOk_iff p 0, weight 0, slotChannelOk_iff p 2, weight 2, slotChannelOk_iff p 4, weight 4,
        slotChannelOk_iff p 6, weight 6, .rfl, .rfl, .rfl, .rfl, .rfl, .rfl, .rfl, .rfl, .rfl, .rfl, .rfl, .rfl, .rfl,
        .rfl, .rfl⟩
    covers := fun n absent => by
      dsimp only [inRange]
      split
      case h_24 => trivial
      all_goals exact absurd (by simp [xfTests, thresholdTests, persistenceAndThermalTests]) absent }
  have opened : guarded = false → ¬s.setup.guardSpan.guardsXf x = true := Bool.eq_false_iff.1
  have unserved : (s.xf x).inService = false → ¬(s.xf x).inService = true := Bool.eq_false_iff.1
  refine ⟨GuardSpan.guardsXf_iff _ x, fun n unguarded off out lower => ?_, fun all => ?_, fun n outside => ?_,
    fun on => ?_, fun unguarded on => ?_, fun n unguarded off fault => ?_, fun e unguarded off range bytes => ?_⟩
  · have fault : xfFieldFault p = some n := (xfFieldFault_eq p).trans (tests.firstFault_eq_some out lower)
    rw [answer, if_neg (opened unguarded), if_neg (unserved off), fault]
  · obtain ⟨range, bytes⟩ := xfOfFields_spec length.ge (tests.firstFault_eq_none all) false
    exact ⟨_, range, by rw [bytes, ← length, List.take_length]⟩
  · rw [exec_writeTransformer h source tag n length, xfOfIndex_of_le _ outside]
  · rw [answer]
    exact congrArg _ (if_pos on)
  · rw [answer, if_neg (opened unguarded), if_pos on]
  · rw [answer, if_neg (opened unguarded), if_neg (unserved off), fault]
  · obtain ⟨ok, read⟩ := xfFieldBytes_read e range [] false
    rw [List.append_nil, ← bytes] at ok read
    rw [if_neg (opened unguarded), if_neg (unserved off), ok, read] at answer
    refine ⟨fun j refused first => ?_, fun free => ?_⟩
    · have rule : xfRuleFault s x { e with inService := false } = _ := xfRuleFault_eq_some refused first
      rw [answer, rule]
    · have rule : xfRuleFault s x { e with inService := false } = none := xfRuleFault_eq_none free
      rw [answer, rule]

/-! ### SET SERVICE (R174) -/

theorem XfEntry.hasMember_iff (e : XfEntry) :
    e.hasMember = true ↔ ∃ (j : Slot) (c : Channel), e.slots[j].channel = some c := by
  simp [hasMember, Option.isSome_iff_exists]

section
variable {s : State} (h : s.Serving) (source tag i d : Byte)
include h

theorem exec_setService_subject (subject : Byte) (one : subject ≠ 1) (two : subject ≠ 2) :
    exec (.setService source tag [subject, i, d]) s =
      .next (s.answered ⟨source, [0x07, tag, subject, i, d]⟩ .badIndex 1 []) := by
  have first : ¬subject.toNat = 1 := fun same => one (BitVec.eq_of_toNat_eq same)
  have second : ¬subject.toNat = 2 := fun same => two (BitVec.eq_of_toNat_eq same)
  rw [exec, execSetService, intake_serving h]
  simp only [serveSetService, requestBody_length, requestBody_u8_two, u8_cons_zero, List.length_cons, List.length_nil,
    Nat.reduceAdd, ne_eq, not_true_eq_false, if_false, first, second]
  exact congrArg _ (arbiter_refuse_holdRequest _ _ _ _ s)

theorem exec_setService_channel :
    let rq : Request := ⟨source, [0x07, tag, 1, i, d]⟩
    exec (.setService source tag [1, i, d]) s = .next (
      match channelOfIndex i.toNat with
      | none => s.answered rq .badIndex 2 []
      | some c =>
        if s.setup.guardSpan.guardsChannel c then s.answered rq .guarded 0 []
        else if 1 < d.toNat then s.answered rq .badValue 3 []
        else if d.toNat = 1 ∧ (s.channelEntry c).sensorId = 0 then s.answered rq .badValue 2 []
        else if (d.toNat == 1) = ((s.channel c).state != .off) then s.answered rq .done 0 []
        else s.awaiting rq (.channelService c { s.channelEntry c with inService := d.toNat == 1 })) := by
  have one : (1 : Byte).toNat = 1 := rfl
  have index : u8 (requestBody 7 tag [1, i, d]) 3 = i.toNat := rfl
  have direction : u8 (requestBody 7 tag [1, i, d]) 4 = d.toNat := rfl
  rw [exec, execSetService, intake_serving h]
  simp only [serveSetService, requestBody_length, requestBody_u8_two, u8_cons_zero, List.length_cons, List.length_nil,
    Nat.reduceAdd, ne_eq, not_true_eq_false, if_false, one, if_true, index, direction]
  cases channelOfIndex i.toNat with
  | none => exact congrArg _ (arbiter_refuse_holdRequest _ _ _ _ s)
  | some c =>
    simp only [serviceChannel, apply_ite arbiter, arbiter_refuse_holdRequest, arbiter_respondDone_holdRequest,
      arbiter_beginWrite_holdRequest]
    rfl

theorem exec_setService_xf :
    let rq : Request := ⟨source, [0x07, tag, 2, i, d]⟩
    exec (.setService source tag [2, i, d]) s = .next (
      match xfOfIndex i.toNat with
      | none => s.answered rq .badIndex 2 []
      | some t =>
        if s.setup.guardSpan.guardsXf t then s.answered rq .guarded 0 []
        else if 1 < d.toNat then s.answered rq .badValue 3 []
        else if d.toNat = 1 ∧ (s.xfEntry t).hasMember = false then s.answered rq .badValue 1 []
        else if (d.toNat == 1) = (s.xf t).inService then s.answered rq .done 0 []
        else s.awaiting rq (.xfService t { s.xfEntry t with inService := d.toNat == 1 })) := by
  have two : (2 : Byte).toNat = 2 := rfl
  have index : u8 (requestBody 7 tag [2, i, d]) 3 = i.toNat := rfl
  have direction : u8 (requestBody 7 tag [2, i, d]) 4 = d.toNat := rfl
  rw [exec, execSetService, intake_serving h]
  simp only [serveSetService, requestBody_length, requestBody_u8_two, u8_cons_zero, List.length_cons, List.length_nil,
    Nat.reduceAdd, ne_eq, not_true_eq_false, if_false, two, if_true, index, direction, OfNat.ofNat_ne_one]
  cases xfOfIndex i.toNat with
  | none => exact congrArg _ (arbiter_refuse_holdRequest _ _ _ _ s)
  | some t =>
    simp only [serviceXf, apply_ite arbiter, arbiter_refuse_holdRequest, arbiter_respondDone_holdRequest,
      arbiter_beginWrite_holdRequest]
    rfl

end

/-- Settles O22: each clause is a branch of the request's equation for its subject. -/
theorem setServiceIsCheckedAndBegun : Obligations.SetServiceIsCheckedAndBegun := by
  intro s source tag i d h
  refine ⟨exec_setService_subject h source tag i d, fun outside => ?_, fun outside => ?_, ?_, ?_⟩
  · rw [exec_setService_channel h, channelOfIndex_of_le _ outside]
  · rw [exec_setService_xf h, xfOfIndex_of_le _ outside]
  · intro c index rq guarded
    have answer := exec_setService_channel h source tag i d
    rw [index, channelOfIndex_val] at answer
    dsimp only at answer
    have opened : guarded = false → ¬s.setup.guardSpan.guardsChannel c = true := Bool.eq_false_iff.1
    refine ⟨GuardSpan.guardsChannel_iff _ c, fun on => ?_, fun unguarded above => ?_, fun unguarded one none => ?_,
      fun unguarded one source' on => ?_, fun unguarded zero off => ?_, fun unguarded one source' off => ?_,
      fun unguarded zero on => ?_⟩
    · rw [answer]
      exact congrArg _ (if_pos on)
    · rw [answer, if_neg (opened unguarded), if_pos above]
    · subst one
      rw [answer, if_neg (opened unguarded), if_neg (by decide), if_pos ⟨rfl, none⟩]
    · subst one
      rw [answer, if_neg (opened unguarded), if_neg (by decide), if_neg fun both => source' both.2, if_pos (by simpa)]
    · subst zero
      rw [answer, if_neg (opened unguarded), if_neg (by decide), if_neg (by simp), if_pos (by simpa)]
    · subst one
      rw [answer, if_neg (opened unguarded), if_neg (by decide), if_neg fun both => source' both.2, if_neg (by simpa)]
      rfl
    · subst zero
      rw [answer, if_neg (opened unguarded), if_neg (by decide), if_neg (by simp), if_neg (by simpa)]
      rfl
  · intro x index rq guarded used
    have answer := exec_setService_xf h source tag i d
    rw [index, xfOfIndex_val] at answer
    dsimp only at answer
    have opened : guarded = false → ¬s.setup.guardSpan.guardsXf x = true := Bool.eq_false_iff.1
    have named : (s.xfEntry x).hasMember = true ↔ used := XfEntry.hasMember_iff _
    have member : used → ¬(d.toNat = 1 ∧ (s.xfEntry x).hasMember = false) :=
      fun holds both => Bool.eq_false_iff.1 both.2 (named.2 holds)
    refine ⟨GuardSpan.guardsXf_iff _ x, fun on => ?_, fun unguarded above => ?_, fun unguarded one none => ?_,
      fun unguarded one uses on => ?_, fun unguarded zero off => ?_, fun unguarded one uses off => ?_,
      fun unguarded zero on => ?_⟩
    · rw [answer]
      exact congrArg _ (if_pos on)
    · rw [answer, if_neg (opened unguarded), if_pos above]
    · subst one
      rw [answer, if_neg (opened unguarded), if_neg (by decide),
        if_pos ⟨rfl, Bool.eq_false_iff.2 fun holds => none (named.1 holds)⟩]
    · subst one
      rw [answer, if_neg (opened unguarded), if_neg (by decide), if_neg (member uses), if_pos (by rw [on]; rfl)]
    · subst zero
      rw [answer, if_neg (opened unguarded), if_neg (by decide), if_neg (by simp), if_pos (by rw [off]; rfl)]
    · subst one
      rw [answer, if_neg (opened unguarded), if_neg (by decide), if_neg (member uses), if_neg (by rw [off]; decide)]
      rfl
    · subst zero
      rw [answer, if_neg (opened unguarded), if_neg (by decide), if_neg (by simp), if_neg (by rw [on]; decide)]
      rfl

/-! ### SET GUARD (R176) -/

theorem exec_setGuard {s : State} (h : s.Serving) (source tag span flag : Byte) (lock : Bool) :
    let rq : Request := ⟨source, [0x0F, tag, span, flag]⟩
    exec (.setGuard source tag [span, flag] lock) s = .next (
      if s.setup.lockFlag && lock then s.answered rq .locked 0 []
      else if 3 < span.toNat then s.answered rq .badValue 1 []
      else if 1 < flag.toNat then s.answered rq .badValue 2 []
      else s.awaiting rq
        (.guardSpan { s.setup with guardSpan := GuardSpan.ofCode span.toNat, lockFlag := flag.toNat == 1 })) := by
  have second : u8 (requestBody 15 tag [span, flag]) 3 = flag.toNat := rfl
  rw [exec, execSetGuard, intake_serving h]
  simp only [serveSetGuard, requestBody_length, requestBody_u8_two, u8_cons_zero, List.length_cons, List.length_nil,
    Nat.reduceAdd, ne_eq, not_true_eq_false, if_false, second, apply_ite arbiter,
    arbiter_refuse_holdRequest, arbiter_beginWrite_holdRequest]
  rfl

/-- Settles O23: each clause is a branch of the request's equation. -/
theorem setGuardIsCheckedAndBegun : Obligations.SetGuardIsCheckedAndBegun := by
  intro s source tag span flag lock h rq
  have answer := exec_setGuard h source tag span flag lock
  dsimp only at answer
  refine ⟨fun locked => ?_, fun unlocked => ?_⟩
  · rw [answer, if_pos (Bool.and_eq_true_iff.2 locked)]
  rw [if_neg (mt Bool.and_eq_true_iff.1 unlocked)] at answer
  refine ⟨fun above => ?_, fun within above => ?_, fun new code within => ?_⟩
  · rw [answer, if_pos (show 3 < span.toNat from above)]
  · rw [answer, if_neg (by omega), if_pos (show 1 < flag.toNat from above)]
  · have := new.code_le
    have same : (flag.toNat == 1) = (flag == 1) := by
      rw [Bool.eq_iff_iff, beq_iff_eq, beq_iff_eq, ← BitVec.toNat_inj]
      rfl
    rw [answer, if_neg (by omega), if_neg (by omega), code, GuardSpan.ofCode_code, same]

end Sys2Proof.Machine

/-! PROOF. ACKNOWLEDGE for one transformer and for all (R67 to R70): one flag's clearing as a next state, and the request
for all as a walk whose turns are such clearings with the events that come between them. -/

namespace Sys2Proof.Machine

/-! ### What the blocks leave around them -/

theorem State.SameAround.refl (s : State) : s.SameAround s := (WorksOn.refl (x := 0) s).2.2

theorem State.SameAround.trans {s t u : State} (first : s.SameAround t) (second : t.SameAround u) : s.SameAround u := by
  obtain ⟨a1, a2, a3, a4, a5, a6, a7, a8, a9, a10, a11, a12, a13, a14⟩ := first
  obtain ⟨b1, b2, b3, b4, b5, b6, b7, b8, b9, b10, b11, b12, b13, b14⟩ := second
  exact ⟨b1.trans a1, b2.trans a2, b3.trans a3, b4.trans a4, b5.trans a5, b6.trans a6, b7.trans a7, b8.trans a8,
    b9.trans a9, b10.trans a10, b11.trans a11, b12.trans a12, b13.trans a13, b14.trans a14⟩

/-- The work of the blocks leaves what is around them. -/
theorem sameAround_keptByBlocks (s : State) : KeptByBlocks s.SameAround where
  setChannel _ _ _ same := same
  setXf _ _ _ _ same := same
  alarm _ _ _ same := same
  setStation _ _ _ same := same
  enter _ _ same := same
  write _ _ same := same
  takeChange _ _ _ _ _ same := same
  report u b c x _ same := by rw [report_eq]; exact same

/-! ### One flag cleared (R67, R70) -/

/-- A transformer's flag cleared, its reported level the larger of L and T, and ALARM OUT set from the others. -/
def State.flagCleared (u : State) (x : Xf) : State :=
  { u with
    xfs := u.xfs.set x { u.xf x with
      unack := false, reported := Level.higher (u.xf x).levels.condition (u.xf x).thermal }
    alarmOut := (List.finRange 16).any (fun o => o ≠ x && ((u.xf o).inService && (u.xf o).unack)) }

/-- The clearing of a flag at ALARM with the notices of a changed level. -/
def State.acknowledgedAt (u : State) (x : Xf) : State :=
  let level := Level.higher (u.xf x).levels.condition (u.xf x).thermal
  if level = .alarm then u.flagCleared x
  else levelNotice .alarm level (takeChange (.level x) Level.alarm.rank level.rank (u.flagCleared x))

theorem anyAlarming_setXf_quiet (s : State) (x : Xf) (r : XfRec) (quiet : r.alarming = false) :
    (s.setXf x r).anyAlarming = (List.finRange 16).any (fun o => o ≠ x && ((s.xf o).inService && (s.xf o).unack)) := by
  refine congrArg (List.any _) (funext fun o => ?_)
  show ((s.setXf x r).xf o).alarming = _
  rw [State.setXf_xf]
  by_cases same : x = o
  · simp [same, quiet]
  · simp [same, Ne.symm same, XfRec.alarming]

theorem refreshAlarmOut_of_eq {s : State} (same : s.alarmOut = s.anyAlarming) : refreshAlarmOut s = s := by
  unfold refreshAlarmOut
  rw [← same]
  rfl

theorem levelNotice_anyAlarming (old new : Level) (s : State) : (levelNotice old new s).anyAlarming = s.anyAlarming := by
  rw [levelNotice_eq]
  rfl

theorem acknowledgeFlag_of_clear {x : Xf} {s : State} (clear : (s.xf x).alarming = false) : acknowledgeFlag x s = s :=
  if_neg (Bool.eq_false_iff.1 clear)

/-- ALARM OUT set again after a transformer's record is replaced by the one with its flag cleared. -/
theorem refreshAlarmOut_flagCleared (s : State) (x : Xf) :
    refreshAlarmOut (s.setXf x { s.xf x with
      unack := false, reported := Level.higher (s.xf x).levels.condition (s.xf x).thermal }) = s.flagCleared x :=
  congrArg (State.setAlarmOut _) (anyAlarming_setXf_quiet s x _ (Bool.and_false (s.xf x).inService))

theorem flagCleared_anyAlarming (s : State) (x : Xf) : (s.flagCleared x).alarmOut = (s.flagCleared x).anyAlarming := by
  rw [← refreshAlarmOut_flagCleared]
  rfl

theorem XfRec.withReported_cleared (latch : Bool) {level : Level} {r : XfRec} (alarm : r.reported = .alarm)
    (below : level ≠ .alarm) :
    ({ r with unack := false } : XfRec).withReported latch level = { r with unack := false, reported := level } := by
  unfold XfRec.withReported
  rw [if_neg (show ¬r.reported = level from alarm ▸ below.symm), if_neg below]
  split <;> rfl

/-- Without its flag a transformer's re-derived level is the larger of L and T. -/
theorem candidateLevel_of_clear (latch : Bool) {r : XfRec} (clear : r.unack = false) :
    candidateLevel latch r = Level.higher r.levels.condition r.thermal := by
  unfold candidateLevel
  rw [clear, Bool.and_false]
  rfl

theorem rederive_setXf (x : Xf) (s : State) (q : XfRec) :
    rederive x (s.setXf x q) =
      if q.reported = candidateLevel (s.xfEntry x).latch q then s.setXf x q
      else levelChanged x q.reported (candidateLevel (s.xfEntry x).latch q)
        (s.setXf x (q.withReported (s.xfEntry x).latch (candidateLevel (s.xfEntry x).latch q))) := by
  unfold rederive
  dsimp only
  rw [State.mapXf_eq, State.setXf_xf_same, State.setXf_setXf, State.setXf_xfEntry]

theorem acknowledgeFlag_of_alarm {x : Xf} {s : State} (set : (s.xf x).alarming = true)
    (alarm : (s.xf x).reported = .alarm) : acknowledgeFlag x s = s.acknowledgedAt x := by
  have cleared := refreshAlarmOut_flagCleared s x
  unfold acknowledgeFlag State.acknowledgedAt
  rw [if_pos set, State.mapXf_eq, rederive_setXf, candidateLevel_of_clear _ rfl]
  dsimp only
  generalize Level.higher (s.xf x).levels.condition (s.xf x).thermal = level at cleared
  by_cases at' : level = .alarm
  · rw [if_pos (alarm.trans at'.symm), if_pos at', ← cleared, at', ← alarm]
  · rw [if_neg (by rw [alarm]; exact Ne.symm at'), if_neg at', XfRec.withReported_cleared _ alarm at', levelChanged,
      cleared, alarm]
    refine refreshAlarmOut_of_eq ?_
    rw [levelNotice_anyAlarming, levelNotice_eq]
    exact flagCleared_anyAlarming s x

/-! ### The answer of a request in hand -/

/-- A request's work with the slot still PENDING, answered, is that work's state answered. -/
theorem arbiter_respond_of_pending {u : State} {rq' : Request} (pending : u.frames.response = .pending rq')
    (rq : Request) (r : Result) (d : Nat) (data : List Byte) : arbiter (respond rq r d data u) = u.answered rq r d data := by
  have same : u.setFrames { u.frames with response := .pending rq' } = u := by rw [← pending]; rfl
  rw [← arbiter_respond_setFrames rq rq', same]

theorem FrameHandler.arbitrate_pending {f : FrameHandler} {rq : Request} (pending : f.response = .pending rq) :
    f.arbitrate.response = .pending rq := by
  unfold arbitrate
  split
  · exact pending
  split
  · unfold startOwn
    rw [pending]
    cases f.status with
    | none => exact pending
    | some frame => rfl
  · unfold startForward
    split <;> exact pending

theorem forwardFrame_pending {s : State} {rq : Request} (pending : s.frames.response = .pending rq) (port : Port)
    (source : Byte) (bytes : List Byte) : (forwardFrame port source bytes s).frames.response = .pending rq := by
  have reported : ∀ b c, (report b c source s).frames.response = .pending rq := fun b c => by rw [report_eq]; exact pending
  unfold forwardFrame
  cases port
  · dsimp only
    split
    · exact FrameHandler.arbitrate_pending (f := { s.frames with aToB := s.frames.aToB ++ [bytes] }) pending
    · exact reported _ _
  · dsimp only
    split
    · show (FrameHandler.startPortA _).response = _
      unfold FrameHandler.startPortA
      split <;> exact pending
    · exact reported _ _

theorem buildStatus_pending {s : State} {rq : Request} (pending : s.frames.response = .pending rq) :
    (buildStatus s).frames.response = .pending rq := by
  have built : (s.frames.putStatus s.statusFrame).response = .pending rq := by
    unfold FrameHandler.putStatus FrameHandler.noteOwn
    split <;> exact pending
  unfold buildStatus
  split
  · rw [report_eq]; exact built
  · exact built

/-- The events that come inside a request leave it in hand. -/
theorem takeEvent_pending {s : State} {rq : Request} (pending : s.frames.response = .pending rq) (e : PartEvent) :
    (takeEvent e s).frames.response = .pending rq := by
  have blocks := sameSlots_keptByBlocks s
  have same : ∀ {u : State}, s.SameSlots u → u.frames.response = .pending rq := fun h => h.1 ▸ pending
  cases e
  case frameArrival port bytes =>
    rw [takeEvent_frameArrival]
    unfold transmissionEnds
    split
    · exact pending
    split
    · exact same (report_sameSlots _ _ _ s)
    next f _ =>
      have examined := blocks.examineBlock f.body (.refl s)
      unfold placeFrame
      split_ifs
      · exact same examined
      · cases port <;> exact same (report_sameSlots _ _ _ s)
      · exact pending
      · exact forwardFrame_pending (same examined) _ _ _
      · exact forwardFrame_pending pending _ _ _
  case portATransmitCompletion =>
    show (portACompletes s).frames.response = _
    unfold portACompletes
    split
    · show (FrameHandler.startPortA _).response = _
      unfold FrameHandler.startPortA
      split <;> exact pending
    · exact pending
  case portBTransmitCompletion =>
    have decided := FrameHandler.arbitrate_pending (f := { s.frames with txB := none }) pending
    show (portBCompletes arbiter s).frames.response = _
    unfold portBCompletes
    split
    · exact pending
    · exact decided
    · exact decided
    · exact decided
  case staleTimerExpiry c => exact same (blocks.staleExpires c (.refl s))
  case lostTimerExpiry c => exact same (blocks.lostExpires c (.refl s))
  case holdTimerExpiry => exact same (blocks.holdExpires (.refl s))
  case statusTimerExpiry =>
    show (statusExpires s).frames.response = _
    unfold statusExpires
    split
    · exact FrameHandler.arbitrate_pending (buildStatus_pending pending)
    · exact pending
  case uptimeSecondCount =>
    show (countUptimeSecond s).frames.response = _
    unfold countUptimeSecond
    split <;> exact pending

theorem takeBetween_pending {s : State} {rq : Request} (pending : s.frames.response = .pending rq)
    (events : List Interposed) (n : Nat) : (takeBetween events n s).frames.response = .pending rq :=
  KeptByCommands.foldl (P := fun u => u.frames.response = .pending rq) _ (fun _ e held => takeEvent_pending held e.event) _
    pending

/-! ### A walk of turns -/

/-- The state after `n` turns of a walk over a list, from `u` on. -/
def walkState {α : Type} (turn : State → α → State) (l : List α) (u : State) (n : Nat) : State := (l.take n).foldl turn u

theorem walkState_succ {α : Type} (turn : State → α → State) {l : List α} {n : Nat} {a : α} (at' : l[n]? = some a)
    (u : State) : walkState turn l u (n + 1) = turn (walkState turn l u n) a := by
  unfold walkState
  rw [List.take_add_one, at', List.foldl_append]
  rfl

/-- A walk with a count: its state is that of the walk, and it counts the turns that hit. -/
theorem foldl_walk {α : Type} (turn : State → α → State) (hit : State → α → Bool) (pos : α → Nat) (l : List α)
    (places : ∀ n a, l[n]? = some a → pos a = n) (u : State) :
    l.foldl (fun p a => (turn p.1 a, if hit p.1 a then p.2 + 1 else p.2)) (u, 0) =
      (walkState turn l u l.length, l.countP fun a => hit (walkState turn l u (pos a)) a) := by
  suffices part : ∀ n, n ≤ l.length →
      (l.take n).foldl (fun p a => (turn p.1 a, if hit p.1 a then p.2 + 1 else p.2)) (u, 0) =
        (walkState turn l u n, (l.take n).countP fun a => hit (walkState turn l u (pos a)) a) by
    simpa using part l.length le_rfl
  intro n
  induction n with
  | zero => exact fun _ => rfl
  | succ n ih =>
    intro within
    have at' : l[n]? = some l[n] := List.getElem?_eq_getElem within
    rw [List.take_add_one, at', Option.toList_some, List.foldl_append, ih (Nat.le_of_succ_le within), List.countP_append,
      List.countP_singleton, places n _ at', walkState_succ turn at']
    simp only [List.foldl_cons, List.foldl_nil]
    split <;> rfl

/-! ### ACKNOWLEDGE for one transformer (R67) -/

section
variable {s : State} (h : s.Serving) (source tag : Byte)
include h

theorem exec_acknowledge_of_ne {i : Byte} (one : i.toNat ≠ 255) :
    let rq : Request := ⟨source, [0x08, tag, i]⟩
    exec (.acknowledge source tag [i]) s = .next (
      match xfOfIndex i.toNat with
      | none => s.answered rq .badIndex 1 []
      | some x => (acknowledgeFlag x s).answered rq .done 0 [if (s.xf x).alarming then 1 else 0]) := by
  rw [exec, execAcknowledge, intake_serving h]
  simp only [serveAcknowledge, requestBody_length, requestBody_u8_two, u8_cons_zero, List.length_cons, List.length_nil,
    Nat.reduceAdd, ne_eq, not_true_eq_false, if_false, one]
  cases xfOfIndex i.toNat with
  | none => exact congrArg _ (arbiter_refuse_holdRequest _ _ _ _ s)
  | some x =>
    dsimp only [acknowledgeStep]
    have count : be8 (if ((holdRequest ⟨source, requestBody 8 tag [i]⟩ s).xf x).alarming then 0 + 1 else 0) =
        [if (s.xf x).alarming then 1 else 0] := by
      rw [holdRequest_xf]
      cases (s.xf x).alarming <;> rfl
    have frames : (acknowledgeFlag x s).frames = s.frames := (WorksOn.acknowledgeFlag (x := x) s).2.2.2.2.2.2.2.2.1
    rw [count, holdRequest, acknowledgeFlag_setFrames, ← frames]
    exact congrArg _ (arbiter_respond_setFrames _ _ _ _ _ _)

theorem exec_acknowledgeAll_eq :
    let rq : Request := ⟨source, [0x08, tag, 0xFF]⟩
    exec (.acknowledgeAll source tag) s = .next (arbiter (respondDone rq (be8 (acknowledgeAll (holdRequest rq s)).2)
      (acknowledgeAll (holdRequest rq s)).1)) := by
  have all : (0xFF : Byte).toNat = 255 := rfl
  rw [exec, execAcknowledgeAll, intake_serving h]
  simp only [serveAcknowledge, requestBody_length, requestBody_u8_two, u8_cons_zero, List.length_cons, List.length_nil,
    Nat.reduceAdd, ne_eq, not_true_eq_false, if_false, all, if_true]
  rfl

/-- ACKNOWLEDGE for all as a walk of 16 turns, each the events that come before it and then its acknowledgement. -/
theorem exec_acknowledgeAll :
    let rq : Request := ⟨source, [0x08, tag, 0xFF]⟩
    let turn := fun (u : State) (x : Xf) => acknowledgeFlag x (takeBetween s.inside x.val u)
    let w := walkState turn (List.finRange 16)
      { s with frames := { s.frames with response := .pending rq }, inside := [] }
    exec (.acknowledgeAll source tag) s = .next ((w 16).answered rq .done 0
      [BitVec.ofNat 8 ((List.finRange 16).countP fun x => ((takeBetween s.inside x.val (w x.val)).xf x).alarming)]) := by
  intro rq turn w
  have walk : acknowledgeAll (holdRequest rq s) = (w 16, (List.finRange 16).countP fun x =>
      ((takeBetween s.inside x.val (w x.val)).xf x).alarming) :=
    foldl_walk turn (fun u x => ((takeBetween s.inside x.val u).xf x).alarming) Fin.val (List.finRange 16)
      (fun n x at' => by
        obtain ⟨_, rfl⟩ := List.getElem?_eq_some_iff.1 at'
        simp) _
  have pending : ∀ n, (w n).frames.response = .pending rq := fun n => by
    refine KeptByCommands.foldl (P := fun u => u.frames.response = .pending rq) _ (fun u x held => ?_) _ rfl
    have frames := ((sameSlots_keptByBlocks (takeBetween s.inside x.val u)).acknowledgeFlag x (.refl _)).1
    exact (congrArg FrameHandler.response frames).trans (takeBetween_pending held _ _)
  rw [exec_acknowledgeAll_eq h, walk]
  exact congrArg _ (arbiter_respond_of_pending (pending 16) _ _ _ _)

end

/-- Settles O24: a flag that is clear stays so, and one at ALARM is cleared as `State.acknowledgedAt` says. -/
theorem acknowledgeClearsOneFlag : Obligations.AcknowledgeClearsOneFlag := by
  intro s source tag i h rq
  have answer : ∀ x : Xf, i.toNat = x.val → exec (.acknowledge source tag [i]) s =
      .next ((acknowledgeFlag x s).answered rq .done 0 [if (s.xf x).alarming then 1 else 0]) := fun x index => by
    rw [exec_acknowledge_of_ne h source tag (by omega), index, xfOfIndex_val]
  refine ⟨fun low high => ?_, fun x index clear => ?_, fun x index serves flag alarm => ?_⟩
  · rw [exec_acknowledge_of_ne h source tag (by omega), xfOfIndex_of_le _ low]
  · rw [answer x index, acknowledgeFlag_of_clear clear, show (s.xf x).alarming = false from clear]
    rfl
  · have set : (s.xf x).alarming = true := Bool.and_eq_true_iff.2 ⟨serves, flag⟩
    rw [answer x index, acknowledgeFlag_of_alarm set alarm, set]
    rfl

/-! ### ACKNOWLEDGE for all (R68) -/

/-- What acknowledging some transformers in turn leaves. -/
structure AcknowledgedIn (ts : List Xf) (s u : State) : Prop where
  xf : ∀ x, u.xf x = if x ∈ ts then (s.xf x).acknowledged (s.xfEntry x) else s.xf x
  around : s.SameAround u
  channels : u.channels = s.channels
  recorder : u.recorder = s.recorder
  banks : u.banks = s.banks
  outputs : s.OutputsLaw → u.OutputsLaw

theorem acknowledgeFlag_recorder_banks (x : Xf) (s : State) :
    (acknowledgeFlag x s).recorder = s.recorder ∧ (acknowledgeFlag x s).banks = s.banks := by
  have notice : ∀ old new u, (levelChanged x old new u).recorder = u.recorder ∧ (levelChanged x old new u).banks = u.banks :=
    fun old new u => by
      unfold levelChanged
      rw [levelNotice_eq]
      exact ⟨rfl, rfl⟩
  unfold acknowledgeFlag
  split
  · show (rederive x _).recorder = _ ∧ (rederive x _).banks = _
    unfold rederive
    dsimp only
    split
    · exact ⟨rfl, rfl⟩
    · exact notice _ _ _
  · exact ⟨rfl, rfl⟩

theorem foldl_acknowledgeFlag (ts : List Xf) (nodup : ts.Nodup) (s : State) :
    AcknowledgedIn ts s (ts.foldl (fun u x => acknowledgeFlag x u) s) := by
  induction ts generalizing s with
  | nil => exact ⟨fun x => by simp, (WorksOn.refl (x := 0) s).2.2, rfl, rfl, rfl, id⟩
  | cons t ts ih =>
    obtain ⟨new, rest⟩ := List.nodup_cons.1 nodup
    have works : WorksOn t s (acknowledgeFlag t s) := WorksOn.acknowledgeFlag s
    obtain ⟨recorder, banks⟩ := acknowledgeFlag_recorder_banks t s
    have later := ih rest (acknowledgeFlag t s)
    refine ⟨fun x => ?_, works.2.2.trans later.around, later.channels.trans works.1, later.recorder.trans recorder,
      later.banks.trans banks, fun law => later.outputs (outputsLaw_kept.toKeptByBlocks.acknowledgeFlag t law)⟩
    rw [List.foldl_cons, later.xf, works.xfEntry]
    by_cases at' : x = t
    · rw [at', if_neg new, if_pos List.mem_cons_self, acknowledgeFlag_xf]
    · rw [works.2.1 x at']
      simp [at']

theorem XfRec.acknowledged_of_alarm {e : XfEntry} {r : XfRec} (set : r.alarming = true) (alarm : r.reported = .alarm) :
    r.acknowledged e = { r with unack := false, reported := Level.higher r.levels.condition r.thermal } := by
  unfold acknowledged rederived
  rw [if_pos set, candidateLevel_of_clear _ rfl]
  dsimp only
  generalize Level.higher r.levels.condition r.thermal = level
  by_cases at' : level = .alarm
  · have same : r.reported = level := alarm.trans at'.symm
    rw [XfRec.withReported_of_eq (r := { r with unack := false }) same, ← same]
  · exact withReported_cleared _ alarm at'

/-- With no event between, the turns count the flags that are set at the start. -/
theorem foldl_acknowledgeTurn (ts : List Xf) (nodup : ts.Nodup) (s : State) (n : Nat) :
    ts.foldl (acknowledgeTurn []) (s, n) =
      (ts.foldl (fun u x => acknowledgeFlag x u) s, n + ts.countP fun x => (s.xf x).alarming) := by
  induction ts generalizing s n with
  | nil => rfl
  | cons t ts ih =>
    obtain ⟨new, rest⟩ := List.nodup_cons.1 nodup
    have same : ∀ x ∈ ts, ((acknowledgeFlag t s).xf x).alarming = (s.xf x).alarming := fun x mem => by
      have other : x ≠ t := fun at' => new (at' ▸ mem)
      rw [(WorksOn.acknowledgeFlag s).2.1 x other]
    have turn : acknowledgeTurn [] (s, n) t = (acknowledgeFlag t s, if (s.xf t).alarming then n + 1 else n) := rfl
    rw [List.foldl_cons, turn, ih rest, List.foldl_cons, List.countP_cons,
      List.countP_congr (q := fun x => (s.xf x).alarming) fun x mem => by rw [same x mem]]
    split
    · simp; omega
    · simp

theorem acknowledgeAll_of_quiet {s : State} (quiet : s.inside = []) (rq : Request) :
    acknowledgeAll (holdRequest rq s) =
      (((List.finRange 16).foldl (fun u x => acknowledgeFlag x u) s).setFrames { s.frames with response := .pending rq },
        (List.finRange 16).countP fun x => (s.xf x).alarming) := by
  have begun : (holdRequest rq s).beginWalk = s.setFrames { s.frames with response := .pending rq } := by
    unfold State.beginWalk
    rw [← quiet]
    rfl
  unfold acknowledgeAll
  rw [show (holdRequest rq s).inside = [] from quiet, begun, acknowledgeTurns_setFrames,
    foldl_acknowledgeTurn _ (List.nodup_finRange 16), Nat.zero_add]

/-- Each event inside a request does what the row of its name does, while the request is in hand and port B sends no
response. -/
theorem exec_row_of_pending {u : State} {rq : Request} (pending : u.frames.response = .pending rq)
    (other : ∀ frame, u.frames.txB ≠ some (.response, frame)) (event : PartEvent) :
    let row : Instr := match event with
      | .frameArrival port bytes => .frameArrival port bytes false
      | .portATransmitCompletion => .portATransmitCompletion
      | .portBTransmitCompletion => .portBTransmitCompletion
      | .staleTimerExpiry c => .staleTimerExpiry c
      | .lostTimerExpiry c => .lostTimerExpiry c
      | .holdTimerExpiry => .holdTimerExpiry
      | .statusTimerExpiry => .statusTimerExpiry
      | .uptimeSecondCount => .uptimeSecondCount
    exec row u = .next (takeEvent event u) := by
  cases event
  case frameArrival port bytes =>
    show Host.Outcome.next (transmissionEnds (takeRequestFrame false) port bytes u) = .next (transmissionEnds _ port bytes u)
    unfold transmissionEnds
    split
    · rfl
    next opened =>
      split
      · rfl
      next f _ =>
        have taken : takeRequestFrame false f u = overrunRequest f.source u := by
          unfold takeRequestFrame intake
          rw [if_neg opened, pending]
        cases port
        · rfl
        · unfold placeFrame requestArrival
          rw [taken]
  case portBTransmitCompletion =>
    show Host.Outcome.next (portBCompletes responseSent u) = .next (portBCompletes arbiter u)
    unfold portBCompletes
    split
    · rfl
    · next frame sends => exact absurd sends (other frame)
    · rfl
    · rfl
  all_goals rfl

/-- Settles O25: the walk is that of `exec_acknowledgeAll`, each turn a flag's clearing or nothing; with no event inside
each transformer's turn finds it as it was. -/
theorem acknowledgeAllTakesEachInTurn : Obligations.AcknowledgeAllTakesEachInTurn := by
  intro s source tag h rq flagged
  have answer := exec_acknowledgeAll h source tag
  dsimp only at answer
  refine ⟨⟨walkState (fun u x => acknowledgeFlag x (takeBetween s.inside x.val u)) (List.finRange 16)
      { s with frames := { s.frames with response := .pending rq }, inside := [] }, rfl, fun x => ?_, answer⟩,
    fun quiet law atAlarm => ?_, fun _ _ _ => rfl, fun event u pending other => exec_row_of_pending pending other event⟩
  · have turn := walkState_succ (fun u x => acknowledgeFlag x (takeBetween s.inside x.val u))
      (l := List.finRange 16) (n := x.val) (a := x) (by simp)
      { s with frames := { s.frames with response := .pending rq }, inside := [] }
    refine ⟨fun clear => turn.trans (acknowledgeFlag_of_clear clear), fun set alarm => ?_⟩
    exact turn.trans (acknowledgeFlag_of_alarm set alarm)
  · have done := foldl_acknowledgeFlag (List.finRange 16) (List.nodup_finRange 16) s
    have exact' := exec_acknowledgeAll_eq h source tag
    dsimp only at exact'
    rw [acknowledgeAll_of_quiet quiet] at exact'
    generalize (List.finRange 16).foldl (fun u x => acknowledgeFlag x u) s = u at done exact'
    have frames : u.frames = s.frames := done.around.2.2.2.2.2.2.1
    have result : ∀ x : Xf, u.xf x = if flagged s x = true then
          { s.xf x with unack := false, reported := Level.higher (s.xf x).levels.condition (s.xf x).thermal }
        else s.xf x := fun x => by
      rw [done.xf, if_pos (List.mem_finRange x)]
      split
      · next set => exact XfRec.acknowledged_of_alarm set (atAlarm x set)
      · next clear => exact if_neg clear
    refine ⟨u, ?_, result, ?_, done.channels, done.recorder, done.banks, done.around⟩
    · rw [exact', ← frames]
      exact congrArg _ (arbiter_respond_setFrames _ _ _ _ _ _)
    · refine Bool.eq_false_iff.2 fun on => ?_
      obtain ⟨x, serves, flag⟩ := (done.outputs law).1.1 on
      rw [result] at serves flag
      split at flag
      · cases flag
      · next clear =>
        rw [if_neg clear] at serves
        exact clear (Bool.and_eq_true_iff.2 ⟨serves, flag⟩)

end Sys2Proof.Machine

/-! PROOF. READ BANK and CLEAR BANK (R145 to R148), SEND STATUS and RESTART (R160, R163, R181). -/

namespace Sys2Proof.Machine

/-! ### A bank's record (R186) -/

theorem be8_bank_index (b : BankId) :
    be8 b.index.val = [match b with
      | .linkA => 0 | .linkB => 1 | .input => 2 | .assembly => 3 | .compute => 4 | .table => 5 | .output => 6] := by
  cases b <;> rfl

theorem be8_bankFlags (valid uncorrected overflow : Bool) :
    be8 (valid.toNat + 2 * uncorrected.toNat + 4 * overflow.toNat) =
      [(if valid then 1 else 0) + (if uncorrected then 2 else 0) + (if overflow then 4 else 0)] := by
  cases valid <;> cases uncorrected <;> cases overflow <;> rfl

theorem be8_codeNumber (code : Option ErrorCode) :
    be8 (codeNumber code) = [match code with
      | none => 0
      | some code => match code with
        | .crcFail | .malformedBlock | .lateMember | .channelClamp | .entryCheckFail | .statusSuperseded => 1
        | .badLength | .oldBlock | .lateBlock | .transformerClamp | .setupCheckFail => 2
        | .oversize | .sequenceBreak | .noData | .thermalClamp => 3
        | .forwardOverflow | .invalidSamples | .rateClamp => 4
        | .misdirectedRequest | .clipped => 5
        | .requestOverrun | .channelLost => 6] := by
  cases code with
  | none => rfl
  | some code => cases code <;> rfl

/-! ### A bank cleared (R147) -/

/-- A bank with its record empty and its FAULT change to EMPTY. -/
def State.bankCleared (u : State) (b : BankId) : State :=
  takeChange (.fault b) (u.bank b).heldClass.rank HeldClass.empty.rank { u with banks := u.banks.set b.index BankRec.empty }

theorem clearOne_eq (u : State) (b : BankId) : clearOne u b = if (u.bank b).valid then u.bankCleared b else u := by
  unfold clearOne replaceBank
  cases valid : (u.bank b).valid
  · rfl
  · have held : (u.bank b).heldClass ≠ BankRec.empty.heldClass := by
      unfold BankRec.heldClass
      rw [valid]
      cases (u.bank b).uncorrected <;> decide
    rw [if_pos rfl, if_neg held]
    rfl

theorem bankCleared_bank_other {b o : BankId} (other : o ≠ b) (u : State) : (u.bankCleared b).bank o = u.bank o :=
  State.setBank_bank_other u b o BankRec.empty other

theorem foldl_bankCleared_setFrames (bs : List BankId) (u : State) (fr : FrameHandler) :
    bs.foldl State.bankCleared (u.setFrames fr) = (bs.foldl State.bankCleared u).setFrames fr := by
  induction bs generalizing u with
  | nil => rfl
  | cons b bs ih => exact ih (u.bankCleared b)

theorem foldl_bankCleared_frames (bs : List BankId) (u : State) : (bs.foldl State.bankCleared u).frames = u.frames :=
  KeptByCommands.foldl (P := fun v => v.frames = u.frames) State.bankCleared (fun _ _ same => same) _ rfl

/-- With no event between, the turns empty the banks that are VALID at the start. -/
theorem foldl_clearTurn (bs : List BankId) (nodup : bs.Nodup) (u : State) (n : Nat) :
    bs.foldl (clearTurn []) (u, n) =
      ((bs.filter fun b => (u.bank b).valid).foldl State.bankCleared u,
        n + (bs.filter fun b => (u.bank b).valid).length) := by
  induction bs generalizing u n with
  | nil => rfl
  | cons b bs ih =>
    obtain ⟨new, rest⟩ := List.nodup_cons.1 nodup
    have turn : clearTurn [] (u, n) b =
        (if (u.bank b).valid then u.bankCleared b else u, if (u.bank b).valid then n + 1 else n) :=
      congrArg (·, _) (clearOne_eq u b)
    rw [List.foldl_cons, turn]
    cases valid : (u.bank b).valid
    · rw [if_neg Bool.false_ne_true, if_neg Bool.false_ne_true, ih rest, List.filter_cons_of_neg (by simp [valid])]
    · have same : bs.filter (fun o => ((u.bankCleared b).bank o).valid) = bs.filter fun o => (u.bank o).valid :=
        List.filter_congr fun o mem => by
          have other : o ≠ b := fun at' => new (at' ▸ mem)
          rw [bankCleared_bank_other other]
      rw [if_pos rfl, if_pos rfl, ih rest, same, List.filter_cons_of_pos (p := fun o => (u.bank o).valid) valid,
        List.foldl_cons, List.length_cons]
      exact congrArg _ (by omega)

theorem clearAll_of_quiet {s : State} (quiet : s.inside = []) (rq : Request) :
    let valid := BankId.inOrder.filter fun b => (s.bank b).valid
    clearAll (holdRequest rq s) =
      ((valid.foldl State.bankCleared s).setFrames { s.frames with response := .pending rq }, valid.length) := by
  intro valid
  have begun : (holdRequest rq s).beginWalk = s.setFrames { s.frames with response := .pending rq } := by
    unfold State.beginWalk
    rw [← quiet]
    rfl
  unfold clearAll
  rw [show (holdRequest rq s).inside = [] from quiet, begun, foldl_clearTurn _ (by decide), Nat.zero_add,
    foldl_bankCleared_setFrames]
  rfl

theorem BankId.inOrder_index (b : BankId) : BankId.inOrder[b.index.val]? = some b := by
  cases b <;> rfl

theorem BankId.index_of_inOrder {n : Nat} {b : BankId} (at' : BankId.inOrder[n]? = some b) : b.index.val = n := by
  obtain ⟨within, rfl⟩ := List.getElem?_eq_some_iff.1 at'
  have : n < 7 := within
  interval_cases n <;> rfl

theorem BankId.inOrder_of_le {n : Nat} (above : 7 ≤ n) : BankId.inOrder[n]? = none := List.getElem?_eq_none above

/-! ### READ BANK and CLEAR BANK -/

section
variable {s : State} (h : s.Serving) (source tag i : Byte)
include h

theorem exec_readBank :
    let rq : Request := ⟨source, [0x0D, tag, i]⟩
    exec (.readBank source tag [i]) s = .next (
      match banksNamed i.toNat with
      | none => s.answered rq .badIndex 1 []
      | some bs => s.answered rq .done 0 (bs.flatMap fun b => bankBytes b (s.bank b))) := by
  rw [exec, execReadBank, intake_serving h]
  simp only [serveReadBank, requestBody_length, requestBody_u8_two, u8_cons_zero, List.length_singleton, ne_eq,
    not_true_eq_false, if_false]
  cases banksNamed i.toNat with
  | none => exact congrArg _ (arbiter_refuse_holdRequest _ _ _ _ s)
  | some bs => exact congrArg _ (arbiter_respondDone_holdRequest _ _ _ s)

theorem exec_clearBank :
    let rq : Request := ⟨source, [0x0E, tag, i]⟩
    exec (.clearBank source tag [i]) s = .next (
      if i.toNat = 255 then
        arbiter (respondDone rq (be8 (clearAll (holdRequest rq s)).2) (clearAll (holdRequest rq s)).1)
      else match BankId.inOrder[i.toNat]? with
        | none => s.answered rq .badIndex 1 []
        | some b =>
          if (s.bank b).valid then (s.bankCleared b).answered rq .done 0 [1] else s.answered rq .done 0 [0]) := by
  rw [exec, execClearBank, intake_serving h]
  simp only [serveClearBank, requestBody_length, requestBody_u8_two, u8_cons_zero, List.length_singleton, ne_eq,
    not_true_eq_false, if_false]
  split_ifs
  · rfl
  cases BankId.inOrder[i.toNat]? with
  | none => exact congrArg _ (arbiter_refuse_holdRequest _ _ _ _ s)
  | some b =>
    have turn : clearStep (holdRequest ⟨source, requestBody 14 tag [i]⟩ s, 0) b =
        (if (s.bank b).valid then holdRequest ⟨source, requestBody 14 tag [i]⟩ (s.bankCleared b)
          else holdRequest ⟨source, requestBody 14 tag [i]⟩ s, if (s.bank b).valid then 1 else 0) :=
      congrArg (·, _) (clearOne_eq _ b)
    dsimp only
    rw [turn]
    cases (s.bank b).valid
    · exact congrArg _ (arbiter_respondDone_holdRequest _ _ _ s)
    · exact congrArg _ (arbiter_respondDone_holdRequest _ _ _ (s.bankCleared b))

end

/-- Settles O28: the clauses are the branches of the two requests' equations; the walk is that of `foldl_walk`. -/
theorem banksAreReadAndCleared : Obligations.BanksAreReadAndCleared := by
  intro s source tag i h rqRead rqClear clear
  refine ⟨fun b index => ⟨?_, ?_⟩, ?_, fun low high => ⟨?_, ?_⟩, ?_⟩
  · have named : banksNamed i.toNat = some [b] := by
      unfold banksNamed
      rw [index, if_neg (by omega), BankId.inOrder_index]
      rfl
    rw [exec_readBank h, named]
    dsimp only
    rw [List.flatMap_singleton]
  · rw [exec_clearBank h, if_neg (by omega), index, BankId.inOrder_index]
    exact congrArg _ rfl
  · rintro rfl all
    have named : banksNamed (0xFF : Byte).toNat = some all := rfl
    have answer := exec_clearBank h source tag 0xFF
    dsimp only at answer
    rw [if_pos (show (0xFF : Byte).toNat = 255 from rfl)] at answer
    refine ⟨by rw [exec_readBank h, named], ?_, ?_⟩
    · let turn := fun (u : State) (b : BankId) => clearOne (takeBetween s.inside b.index.val u) b
      let w := walkState turn all { s with frames := { s.frames with response := .pending rqClear }, inside := [] }
      have walk : clearAll (holdRequest rqClear s) =
          (w 7, all.countP fun b => ((takeBetween s.inside b.index.val (w b.index.val)).bank b).valid) :=
        foldl_walk turn (fun u b => ((takeBetween s.inside b.index.val u).bank b).valid) (fun b => b.index.val) all
          (fun n b => BankId.index_of_inOrder) _
      have pending : ∀ n, (w n).frames.response = .pending rqClear := fun n => by
        refine KeptByCommands.foldl (P := fun u => u.frames.response = .pending rqClear) _ (fun u b held => ?_) _ rfl
        have frames := (clearOne_sameSlots b (takeBetween s.inside b.index.val u)).1
        exact (congrArg FrameHandler.response frames).trans (takeBetween_pending held _ _)
      refine ⟨w, rfl, fun b => ?_, ?_⟩
      · exact (walkState_succ turn (BankId.inOrder_index b) _).trans (clearOne_eq _ b)
      · rw [answer]
        show Host.Outcome.next (arbiter (respondDone rqClear (be8 (clearAll (holdRequest rqClear s)).2)
          (clearAll (holdRequest rqClear s)).1)) = _
        rw [walk]
        exact congrArg _ (arbiter_respond_of_pending (pending 7) _ _ _ _)
    · intro quiet valid
      rw [clearAll_of_quiet quiet] at answer
      rw [answer, ← foldl_bankCleared_frames valid s]
      exact congrArg _ (arbiter_respond_setFrames _ _ _ _ _ (valid.foldl State.bankCleared s))
  · have named : banksNamed i.toNat = none := by
      unfold banksNamed
      rw [if_neg (by omega), BankId.inOrder_of_le low]
      rfl
    rw [exec_readBank h, named]
  · rw [exec_clearBank h, if_neg (by omega), BankId.inOrder_of_le low]
  · intro b r bit
    unfold bankBytes
    rw [be8_bank_index, be8_bankFlags, be8_codeNumber]
    rfl

/-! ### SEND STATUS and RESTART -/

/-- The status slot takes a frame behind a READY response: with the slot empty an own frame becomes waiting, with it full
one was waiting already. -/
theorem FrameHandler.putResponse_putStatus (f : FrameHandler) {rq : Request} (pending : f.response = .pending rq)
    (status response : List Byte) :
    (f.putStatus status).putResponse response =
      { f with status := some status, response := .ready response
               forwardRun := if f.status.isSome then f.forwardRun else 0 } := by
  unfold putResponse putStatus noteOwn
  have waiting : f.ownWaiting = f.status.isSome := by
    unfold ownWaiting
    rw [pending]
  have own : ∀ run, FrameHandler.ownWaiting { f with status := some status, forwardRun := run } = true := fun run => by
    unfold ownWaiting
    dsimp only
    rw [pending]
    rfl
  rw [waiting]
  cases f.status.isSome
  · exact congrArg (fun g : FrameHandler => { g with response := .ready response }) (if_pos (own 0))
  · exact congrArg (fun g : FrameHandler => { g with response := .ready response }) (if_pos (own f.forwardRun))

theorem exec_sendStatus {s : State} (h : s.Serving) (source tag : Byte) :
    let rq : Request := ⟨source, [0x10, tag]⟩
    exec (.sendStatus source tag []) s =
      .next (arbiter (respondDone rq [] (buildStatus (holdRequest rq s)))) := by
  rw [exec, execSendStatus, intake_serving h]
  rfl

/-- Settles O29: the response is composed behind the status frame in the slot, before port B is decided. -/
theorem sendStatusAndRestartAreAnswered : Obligations.SendStatusAndRestartAreAnswered := by
  intro s source tag h
  let rq : Request := ⟨source, [0x10, tag]⟩
  have composed := fun response => FrameHandler.putResponse_putStatus { s.frames with response := .pending rq } rfl
    s.statusFrame response
  refine ⟨fun empty => ?_, fun unsent full => ?_, ?_, rfl⟩
  · have built : buildStatus (holdRequest rq s) =
        s.setFrames (FrameHandler.putStatus s.statusFrame { s.frames with response := .pending rq }) :=
      if_neg (show ¬s.frames.status.isSome = true by rw [empty]; exact Bool.false_ne_true)
    rw [exec_sendStatus h, built]
    refine congrArg (fun f => Host.Outcome.next (arbiter (s.setFrames f))) ((composed _).trans ?_)
    rw [empty]
    rfl
  · have built : buildStatus (holdRequest rq s) = (report .output .statusSuperseded 255 s).setFrames
        (FrameHandler.putStatus s.statusFrame { s.frames with response := .pending rq }) := by
      rw [← report_setFrames]
      exact if_pos (show s.frames.status.isSome = true by rw [full]; rfl)
    have replaced : report .output .statusSuperseded 255
        { s with frames := { s.frames with status := some s.statusFrame } } =
        (report .output .statusSuperseded 255 s).setFrames { s.frames with status := some s.statusFrame } :=
      report_setFrames ..
    rw [exec_sendStatus h, built, replaced]
    generalize report .output .statusSuperseded 255 s = u
    refine congrArg (fun f => Host.Outcome.next (arbiter (u.setFrames f))) ((composed _).trans ?_)
    rw [full]
    rfl
  · rw [exec, execRestart, intake_serving h]
    exact congrArg _ (arbiter_respondDone_holdRequest _ _ _ { s with restartArmed := true })

end Sys2Proof.Machine

/-! PROOF. Frames on the line (R152 to R156, R183): the reception check accepts the frames alone, its CRC bit by bit, where
a good frame goes, and the requests that frames carry (R158, R167, R168). -/

namespace Sys2Proof.Machine

/-! ### The CRC bit by bit (R183) -/

/-- One bit taken into the CRC register. -/
def crcBit (r : Nat) (bit : Bool) : Nat := (2 * r % 65536) ^^^ (if r.testBit 15 = bit then 0 else 2 ^ 12 + 2 ^ 5 + 1)

/-- The bits of a byte, most significant first. -/
def bitsOf (b : Byte) : List Bool := (List.range 8).map fun i => b.toNat.testBit (7 - i)

theorem crcBit_lt (r : Nat) (bit : Bool) : crcBit r bit < 65536 := by
  unfold crcBit
  refine Nat.xor_lt_two_pow (n := 16) (Nat.mod_lt _ (by decide)) ?_
  split <;> decide

/-- A shift of the register with a byte still to come added: the byte's next bit is taken, and the byte moves up. -/
theorem crcShift_xor {x y : Nat} (hx : x < 65536) (hy : y < 65536) :
    crcShift (x ^^^ y) = crcBit x (y.testBit 15) ^^^ (2 * y % 65536) := by
  have top : ∀ {v : Nat}, v < 65536 → v / 32768 = (v.testBit 15).toNat := fun {v} hv => by
    rw [Nat.toNat_testBit]
    omega
  have doubled : (x ^^^ y) * 2 % 65536 = (2 * x % 65536) ^^^ (2 * y % 65536) := by
    have shifted := Nat.shiftLeft_xor_distrib (a := x) (b := y) (i := 1)
    rw [Nat.shiftLeft_eq, Nat.shiftLeft_eq, Nat.shiftLeft_eq, Nat.pow_one] at shifted
    rw [shifted, Nat.mul_comm 2, Nat.mul_comm 2]
    exact Nat.xor_mod_two_pow (n := 16)
  have term : ((x ^^^ y) / 32768) * 0x1021 = if x.testBit 15 = y.testBit 15 then 0 else 2 ^ 12 + 2 ^ 5 + 1 := by
    rw [top (Nat.xor_lt_two_pow (n := 16) hx hy), Nat.testBit_xor]
    cases x.testBit 15 <;> cases y.testBit 15 <;> rfl
  unfold crcShift crcBit
  rw [doubled, term, Nat.xor_assoc, Nat.xor_assoc, Nat.xor_comm (2 * y % 65536)]

/-- What is still to come of a byte above the register after `k` of its bits. -/
def restOfByte (b : Byte) (k : Nat) : Nat := b.toNat * 2 ^ (8 + k) % 65536

theorem restOfByte_lt (b : Byte) (k : Nat) : restOfByte b k < 65536 := Nat.mod_lt _ (by decide)

theorem restOfByte_succ (b : Byte) (k : Nat) : 2 * restOfByte b k % 65536 = restOfByte b (k + 1) := by
  unfold restOfByte
  rw [← Nat.add_assoc, Nat.pow_succ, Nat.mul_mod_mod, Nat.mul_comm 2, Nat.mul_assoc]

theorem restOfByte_testBit (b : Byte) {k : Nat} (h : k < 8) : (restOfByte b k).testBit 15 = b.toNat.testBit (7 - k) := by
  have up : 8 + k ≤ 15 := by omega
  have place : 15 - (8 + k) = 7 - k := by omega
  unfold restOfByte
  rw [show 65536 = 2 ^ 16 from rfl, Nat.testBit_mod_two_pow, Nat.mul_comm, Nat.testBit_two_pow_mul, place]
  simp [up]

theorem crcShift_iterate (b : Byte) {r : Nat} (hr : r < 65536) (k : Nat) (hk : k ≤ 8) :
    crcShift^[k] (r ^^^ restOfByte b 0) = ((bitsOf b).take k).foldl crcBit r ^^^ restOfByte b k := by
  induction k with
  | zero => rfl
  | succ k ih =>
    have bit : (bitsOf b)[k]? = some (b.toNat.testBit (7 - k)) := by
      unfold bitsOf
      rw [List.getElem?_map, List.getElem?_range (by omega)]
      rfl
    have bound : ∀ bits : List Bool, bits.foldl crcBit r < 65536 := fun bits => by
      cases bits using List.reverseRecOn with
      | nil => exact hr
      | append_singleton bits last =>
        rw [List.foldl_append]
        exact crcBit_lt _ _
    rw [Function.iterate_succ_apply', ih (by omega), crcShift_xor (bound _) (restOfByte_lt b k), restOfByte_succ,
      restOfByte_testBit b (by omega), List.take_add_one, bit, List.foldl_append]
    rfl

theorem crcByte_eq (b : Byte) {r : Nat} (hr : r < 65536) : crcByte r b = (bitsOf b).foldl crcBit r := by
  have start : restOfByte b 0 = b.toNat * 256 := Nat.mod_eq_of_lt (by have := b.isLt; omega)
  have last : restOfByte b 8 = 0 := Nat.mul_mod_left _ _
  have bits := crcShift_iterate b hr 8 le_rfl
  rw [start, last, Nat.xor_zero, List.take_of_length_le (by simp [bitsOf])] at bits
  exact bits

/-- The CRC takes one bit after the other. -/
theorem crc16_eq (bs : List Byte) : crc16 bs = (bs.flatMap bitsOf).foldl crcBit 0xFFFF := by
  suffices ∀ r, r < 65536 → bs.foldl crcByte r = (bs.flatMap bitsOf).foldl crcBit r from this 0xFFFF (by decide)
  induction bs with
  | nil => exact fun _ _ => rfl
  | cons b bs ih =>
    intro r hr
    rw [List.foldl_cons, ih _ (crcByte_lt r b hr), crcByte_eq b hr, List.flatMap_cons, List.foldl_append]

/-! ### Good frames (R152) -/

theorem frameInner_length (kind dest source : Byte) (body : List Byte) :
    (frameInner kind dest source body).length = 5 + body.length := by
  simp [frameInner, be16]
  omega

theorem frameBytes_length (kind dest source : Byte) (body : List Byte) :
    (frameBytes kind dest source body).length = 9 + body.length := by
  unfold frameBytes
  rw [List.length_append, List.length_append, frameInner_length]
  simp [be16]
  omega

theorem frameBytes_eq_cons (kind dest source : Byte) (body : List Byte) :
    frameBytes kind dest source body =
      0xB5 :: 0x4A :: kind :: dest :: source :: BitVec.ofNat 8 (body.length / 256) :: BitVec.ofNat 8 body.length ::
        (body ++ be16 (crc16 (frameInner kind dest source body))) := rfl

theorem u16_append_be16 {before : List Byte} {i n : Nat} (at' : before.length = i) (h : n < 65536) :
    u16 (before ++ be16 n) i = n := by
  subst at'
  unfold u16 u8
  rw [List.getD_append_right _ _ _ _ (Nat.le_refl _), List.getD_append_right _ _ _ _ (Nat.le_succ _), Nat.sub_self,
    show before.length.succ - before.length = 1 by omega]
  exact be16_read n h

/-- A frame is accepted as what it carries. -/
theorem checkFrame_frameBytes (kind dest source : Byte) {body : List Byte} (short : body.length ≤ 1024) :
    checkFrame (frameBytes kind dest source body) = .ok ⟨kind, dest, source, body⟩ := by
  have length := frameBytes_length kind dest source body
  have field : u16 (frameBytes kind dest source body) 5 = body.length := by
    rw [frameBytes_eq_cons]
    exact be16_read _ (by omega)
  have inner : ((frameBytes kind dest source body).drop 2).take (5 + body.length) = frameInner kind dest source body := by
    rw [← frameInner_length kind dest source body]
    show List.take _ (frameInner kind dest source body ++ _) = _
    exact List.take_left
  have crc : u16 (frameBytes kind dest source body) (7 + body.length) = crc16 (frameInner kind dest source body) :=
    u16_append_be16 (by rw [List.length_append, frameInner_length]; simp; omega) (crc16_lt _)
  have carried : ((frameBytes kind dest source body).drop 7).take body.length = body := by
    rw [frameBytes_eq_cons]
    exact List.take_left
  unfold checkFrame
  rw [field, inner, crc, carried, length]
  rw [if_neg (by rw [frameBytes_eq_cons]; simp), if_neg (by unfold Config.maxBody Config.maxTransmission; omega),
    if_neg (by simp), if_neg (by simp)]
  rfl

/-- What is accepted is a frame. -/
theorem frameBytes_of_checkFrame {bytes : List Byte} {f : GoodFrame} (good : checkFrame bytes = .ok f) :
    f.body.length ≤ 1024 ∧ bytes = frameBytes f.kind f.dest f.source f.body := by
  unfold checkFrame at good
  split at good
  · cases good
  next framed =>
  split at good
  · cases good
  next sized =>
  split at good
  · cases good
  next length =>
  split at good
  · cases good
  next crc =>
  cases good
  obtain ⟨enough, first, second⟩ : 9 ≤ bytes.length ∧ bytes.getD 0 0 = 0xB5 ∧ bytes.getD 1 0 = 0x4A := by
    simpa [not_or] using framed
  have size : u16 bytes 5 ≤ 1024 := Nat.le_of_not_lt fun above => sized (.inl above)
  generalize hL : u16 bytes 5 = n at *
  have whole : bytes.length = 9 + n := not_not.1 length
  have carried : ((bytes.drop 7).take n).length = n := by
    rw [List.length_take, List.length_drop]
    omega
  have inner : frameInner (bytes.getD 2 0) (bytes.getD 3 0) (bytes.getD 4 0) ((bytes.drop 7).take n) =
      bytesAt bytes 2 (5 + n) := by
    unfold frameInner
    rw [carried, ← hL, be16_u16 (by omega), hL, ← bytesAt_append bytes 2 5 n, ← bytesAt_append bytes 2 3 2,
      ← bytesAt_append bytes 2 2 1, ← bytesAt_append bytes 2 1 1, bytesAt_one (by omega), bytesAt_one (by omega),
      bytesAt_one (by omega)]
    rfl
  have check : crc16 (bytesAt bytes 2 (5 + n)) = u16 bytes (7 + n) := not_not.1 crc
  refine ⟨carried.trans_le size, ?_⟩
  unfold frameBytes
  rw [inner, check, be16_u16 (by omega)]
  have start : [0xB5, 0x4A] = bytesAt bytes 0 2 := by
    rw [← bytesAt_append bytes 0 1 1, bytesAt_one (by omega), bytesAt_one (by omega), first, second]
    rfl
  have both : 7 + n = 0 + (2 + (5 + n)) := by omega
  rw [start, bytesAt_append bytes 0 2 (5 + n), both, bytesAt_append, bytesAt_zero]
  exact (List.take_of_length_le (by omega)).symm

theorem checkFrame_eq_ok (bytes : List Byte) (f : GoodFrame) :
    checkFrame bytes = .ok f ↔ f.body.length ≤ 1024 ∧ bytes = frameBytes f.kind f.dest f.source f.body :=
  ⟨frameBytes_of_checkFrame, fun ⟨short, same⟩ => same ▸ checkFrame_frameBytes f.kind f.dest f.source short⟩

/-- Settles O32, by the two directions of `checkFrame_eq_ok` and the bitwise law of the CRC. -/
theorem goodFramesAreTheFrames : Obligations.GoodFramesAreTheFrames :=
  ⟨checkFrame_eq_ok, fun _ _ _ _ => rfl, crc16_eq, by decide +kernel⟩

/-! ### A request's frame (R154, R158) -/

theorem serveByCode_eq (lock : Bool) (source code tag : Byte) (p : List Byte) (s : State) :
    serveByCode lock ⟨source, requestBody code tag p⟩ s =
      match code.toNat with
      | 0x01 => serveReadSetup ⟨source, requestBody code tag p⟩ s
      | 0x02 => serveWriteSetup ⟨source, requestBody code tag p⟩ s
      | 0x03 => serveReadChannel ⟨source, requestBody code tag p⟩ s
      | 0x04 => serveWriteChannel ⟨source, requestBody code tag p⟩ s
      | 0x05 => serveReadTransformer ⟨source, requestBody code tag p⟩ s
      | 0x06 => serveWriteTransformer ⟨source, requestBody code tag p⟩ s
      | 0x07 => serveSetService ⟨source, requestBody code tag p⟩ s
      | 0x08 => serveAcknowledge ⟨source, requestBody code tag p⟩ s
      | 0x09 => serveReadState ⟨source, requestBody code tag p⟩ s
      | 0x0A => serveReadEvents ⟨source, requestBody code tag p⟩ s
      | 0x0B => serveSetFloor ⟨source, requestBody code tag p⟩ s
      | 0x0C => serveReadCapture ⟨source, requestBody code tag p⟩ s
      | 0x0D => serveReadBank ⟨source, requestBody code tag p⟩ s
      | 0x0E => serveClearBank ⟨source, requestBody code tag p⟩ s
      | 0x0F => serveSetGuard lock ⟨source, requestBody code tag p⟩ s
      | 0x10 => serveSendStatus ⟨source, requestBody code tag p⟩ s
      | 0x11 => serveRestart ⟨source, requestBody code tag p⟩ s
      | _ => refuse ⟨source, requestBody code tag p⟩ .unknownRequest 0 s := by
  unfold serveByCode
  rw [if_neg (by rw [requestBody_length]; omega), requestBody_u8_code] <;> rfl

theorem intake_congr {source : Byte} {body : List Byte} {serve serve' : Request → State → State}
    (same : ∀ u, serve ⟨source, body⟩ u = serve' ⟨source, body⟩ u) (s : State) :
    intake source body serve s = intake source body serve' s := by
  unfold intake takeRequest
  rw [same]

theorem exec_ofCode {i : Instr} {source : Byte} {body : List Byte} {serve : Request → State → State} {lock : Bool}
    {s : State} (row : exec i s = .next (intake source body serve s))
    (handled : ∀ u, serveByCode lock ⟨source, body⟩ u = serve ⟨source, body⟩ u) :
    exec i s = .next (intake source body (serveByCode lock) s) :=
  row.trans (congrArg _ (intake_congr (fun u => (handled u).symm) s))

/-- Every request row is the intake of its request, handled by its code. -/
theorem exec_request_byCode {i : Instr} {rq : Request} (carries : requestOf i = some rq) (s : State) :
    exec i s = .next (intake rq.source rq.body (serveByCode (lockOf i)) s) := by
  cases i <;> cases carries
  case readSetup source tag p => exact exec_ofCode rfl fun u => serveByCode_eq false source 0x01 tag p u
  case writeSetup source tag p => exact exec_ofCode rfl fun u => serveByCode_eq false source 0x02 tag p u
  case readChannel source tag p => exact exec_ofCode rfl fun u => serveByCode_eq false source 0x03 tag p u
  case writeChannel source tag p => exact exec_ofCode rfl fun u => serveByCode_eq false source 0x04 tag p u
  case readTransformer source tag p => exact exec_ofCode rfl fun u => serveByCode_eq false source 0x05 tag p u
  case writeTransformer source tag p => exact exec_ofCode rfl fun u => serveByCode_eq false source 0x06 tag p u
  case setService source tag p => exact exec_ofCode rfl fun u => serveByCode_eq false source 0x07 tag p u
  case acknowledge source tag p => exact exec_ofCode rfl fun u => serveByCode_eq false source 0x08 tag p u
  case acknowledgeAll source tag => exact exec_ofCode rfl fun u => serveByCode_eq false source 0x08 tag [0xFF] u
  case readState source tag p => exact exec_ofCode rfl fun u => serveByCode_eq false source 0x09 tag p u
  case readEvents source tag p => exact exec_ofCode rfl fun u => serveByCode_eq false source 0x0A tag p u
  case setFloor source tag p => exact exec_ofCode rfl fun u => serveByCode_eq false source 0x0B tag p u
  case readCapture source tag p => exact exec_ofCode rfl fun u => serveByCode_eq false source 0x0C tag p u
  case readBank source tag p => exact exec_ofCode rfl fun u => serveByCode_eq false source 0x0D tag p u
  case clearBank source tag p => exact exec_ofCode rfl fun u => serveByCode_eq false source 0x0E tag p u
  case setGuard source tag p lock => exact exec_ofCode rfl fun u => serveByCode_eq lock source 0x0F tag p u
  case sendStatus source tag p => exact exec_ofCode rfl fun u => serveByCode_eq false source 0x10 tag p u
  case restart source tag p => exact exec_ofCode rfl fun u => serveByCode_eq false source 0x11 tag p u

theorem State.open_of {s : State} (phase : s.phase = .running ∨ s.phase = .restoring) : ¬s.bypassClosed = true := by
  unfold bypassClosed
  obtain at' | at' := phase <;> rw [at'] <;> exact Bool.false_ne_true

theorem State.closed_of {s : State} (phase : s.phase = .powerAbsent ∨ s.phase = .heldInReset) : s.bypassClosed = true := by
  unfold bypassClosed
  obtain at' | at' := phase <;> rw [at']

/-- The frame of a request to the part that port B brings is the intake of that request. -/
theorem exec_requestFrame (s : State) (source : Byte) {body : List Byte} (short : body.length ≤ 1024) (lock : Bool) :
    exec (.frameArrival .b (frameBytes kindRequest s.stationAddress source body) lock) s =
      .next (intake source body (serveByCode lock) s) := by
  show Host.Outcome.next (transmissionEnds _ _ _ s) = _
  unfold transmissionEnds
  rw [checkFrame_frameBytes _ _ _ short]
  dsimp only
  split
  · next closed => unfold intake; rw [if_pos closed]
  · unfold placeFrame
    rw [if_pos rfl, if_neg (show ¬kindRequest = kindCycleBlock by decide), if_pos rfl]
    rfl

/-- Settles O31: both are the intake of the request, handled by its code. -/
theorem requestFrameIsItsRequest : Obligations.RequestFrameIsItsRequest := fun i rq s carries short => by
  rw [exec_requestFrame s rq.source short, exec_request_byCode carries]

/-! ### The checks that requests share (R158, R165, R168) -/

theorem serveByCode_short (lock : Bool) {rq : Request} (short : rq.body.length < 2) (s : State) :
    serveByCode lock rq s = refuse rq .badLength 0 s := if_pos short

theorem serveByCode_unknown (lock : Bool) {rq : Request} (long : 2 ≤ rq.body.length)
    (unknown : bodyLength (u8 rq.body 0) = none) (s : State) : serveByCode lock rq s = refuse rq .unknownRequest 0 s := by
  unfold serveByCode
  rw [if_neg (by omega)]
  unfold bodyLength at unknown
  split at unknown
  case h_18 => simp_all
  all_goals cases unknown

theorem serveByCode_wrongLength (lock : Bool) {rq : Request} {n : Nat} (long : 2 ≤ rq.body.length)
    (known : bodyLength (u8 rq.body 0) = some n) (wrong : rq.body.length ≠ n) (s : State) :
    serveByCode lock rq s = refuse rq .badLength 0 s := by
  unfold serveByCode
  rw [if_neg (by omega)]
  generalize u8 rq.body 0 = code at known ⊢
  unfold bodyLength at known
  split at known
  case h_18 => cases known
  all_goals
    cases known
    exact if_pos wrong

theorem requestOf_body {i : Instr} {rq : Request} (carries : requestOf i = some rq) : 2 ≤ rq.body.length := by
  cases i <;> cases carries <;> exact Nat.le_add_left 2 _

/-- Settles O30: the refusals stand before the code's own checks, in the rows and in the frames alike. -/
theorem requestsShareTheirChecks : Obligations.RequestsShareTheirChecks := by
  refine ⟨fun i s closed arrives => ?_, fun i rq s carries opened occupied => ?_, fun i rq s carries phase free => ?_,
    fun s source body lock short => ⟨fun opened occupied => ?_, fun phase free => ?_⟩,
    fun s source body lock h short => ⟨fun lacks => ?_, fun long unknown => ?_⟩,
    fun i rq s n carries h known wrong => ?_⟩
  · obtain carries | ⟨port, bytes, lock, rfl⟩ := arrives
    · obtain ⟨rq, carries⟩ := Option.isSome_iff_exists.1 carries
      rw [exec_request_byCode carries, intake_closed closed]
    · show Host.Outcome.next (transmissionEnds _ _ _ s) = _
      unfold transmissionEnds
      rw [if_pos (State.closed_of closed)]
  · rw [exec_request_byCode carries, intake_occupied opened occupied]
  · rw [exec_request_byCode carries, intake_restoring phase free]
  · rw [exec_requestFrame s source short, intake_occupied opened occupied]
  · rw [exec_requestFrame s source short, intake_restoring phase free]
  · rw [exec_requestFrame s source short, intake_serving h, serveByCode_short lock lacks]
    exact congrArg _ (arbiter_refuse_holdRequest _ _ _ _ s)
  · rw [exec_requestFrame s source short, intake_serving h, serveByCode_unknown lock long unknown]
    exact congrArg _ (arbiter_refuse_holdRequest _ _ _ _ s)
  · rw [exec_request_byCode carries, intake_serving h,
      serveByCode_wrongLength _ (requestOf_body carries) known wrong]
    exact congrArg _ (arbiter_refuse_holdRequest _ _ _ _ s)

/-! ### Where a transmission goes (R152 to R156) -/

section
variable {s : State} (phase : s.phase = .running ∨ s.phase = .restoring) {bytes : List Byte} {port : Port} (lock : Bool)
include phase

theorem exec_failedFrame {code : ErrorCode} (failed : checkFrame bytes = .error code) :
    exec (.frameArrival port bytes lock) s = .next (report (linkBank port) code 255 s) := by
  show Host.Outcome.next (transmissionEnds _ _ _ s) = _
  unfold transmissionEnds
  rw [if_neg (State.open_of phase), failed]
  rfl

theorem exec_goodFrame {f : GoodFrame} (good : checkFrame bytes = .ok f) :
    exec (.frameArrival port bytes lock) s = .next (placeFrame (takeRequestFrame lock) port bytes f s) := by
  show Host.Outcome.next (transmissionEnds _ _ _ s) = _
  unfold transmissionEnds
  rw [if_neg (State.open_of phase), good]

end

theorem placeFrame_other {request : GoodFrame → State → State} {port : Port} {bytes : List Byte} {f : GoodFrame} {s : State}
    (other : f.dest ≠ s.stationAddress) (kind : f.kind ≠ kindCycleBlock) :
    placeFrame request port bytes f s = forwardFrame port f.source bytes s := by
  unfold placeFrame
  rw [if_neg other, if_neg kind]

/-- The framing check of a transmission, on its first two bytes. -/
theorem framed_iff (bytes : List Byte) :
    ¬(bytes.length < 9 ∨ bytes.getD 0 0 ≠ 0xB5 ∨ bytes.getD 1 0 ≠ 0x4A) ↔
      9 ≤ bytes.length ∧ u8 bytes 0 = 0xB5 ∧ u8 bytes 1 = 0x4A := by
  have first : bytes.getD 0 0 = 0xB5 ↔ u8 bytes 0 = 0xB5 := BitVec.toNat_inj.symm
  have second : bytes.getD 1 0 = 0x4A ↔ u8 bytes 1 = 0x4A := BitVec.toNat_inj.symm
  rw [not_or, not_or, not_not, not_not, Nat.not_lt, first, second]

/-- Settles O33, each clause by the first check that fails or by the row of R154 that the frame meets. -/
theorem framesArePlaced : Obligations.FramesArePlaced := by
  intro s port bytes lock phase
  refine ⟨fun code failed => ?_, fun f good mine kind at' => ?_, fun f good mine request block => ?_,
    fun f good other block at' => ?_, fun f good other block at' => ?_, ?_⟩
  · exact exec_failedFrame phase lock failed
  · subst at'
    rw [exec_goodFrame phase lock good]
    unfold placeFrame
    rw [if_pos mine, if_neg (by rw [kind]; decide), if_pos (show f.kind = kindRequest from kind)]
    rfl
  · rw [exec_goodFrame phase lock good]
    unfold placeFrame
    rw [if_pos mine, if_neg (show ¬f.kind = kindCycleBlock from block), if_neg (show ¬f.kind = kindRequest from request)]
  · subst at'
    rw [exec_goodFrame phase lock good, placeFrame_other other block, ← apply_ite Host.Outcome.next]
    rfl
  · subst at'
    rw [exec_goodFrame phase lock good, placeFrame_other other block, ← apply_ite Host.Outcome.next]
    rfl
  · intro b w framed sized failed
    have fails : ∀ {code}, checkFrame bytes = .error code → failed code := exec_failedFrame phase lock
    have isFramed : framed → ¬(bytes.length < 9 ∨ bytes.getD 0 0 ≠ 0xB5 ∨ bytes.getD 1 0 ≠ 0x4A) := (framed_iff bytes).2
    have isSized : sized → ¬(Config.maxBody < u16 bytes 5 ∨ Config.maxTransmission < bytes.length) :=
      fun ⟨body, whole⟩ above => above.elim (Nat.not_lt.2 body) (Nat.not_lt.2 whole)
    refine ⟨fun unframed => fails ?_, fun start unsized => fails ?_, fun start size wrong => fails ?_,
      fun start size right wrong => fails ?_⟩
    · exact if_pos (not_not.1 (mt (framed_iff bytes).1 unframed))
    · unfold checkFrame
      rw [if_neg (isFramed start)]
      refine if_pos ?_
      by_contra within
      obtain ⟨body, whole⟩ := not_or.1 within
      exact unsized ⟨Nat.not_lt.1 body, Nat.not_lt.1 whole⟩
    · unfold checkFrame
      rw [if_neg (isFramed start), if_neg (isSized size)]
      exact if_pos wrong
    · unfold checkFrame
      rw [if_neg (isFramed start), if_neg (isSized size),
        if_neg (not_not.2 (show bytes.length = 9 + u16 bytes 5 from right))]
      exact if_pos wrong

end Sys2Proof.Machine

/-! PROOF. The storm monitor's quorum and hold timer (R103, R104) and the ports (R157, R159, R164). -/

namespace Sys2Proof.Machine

/-! ### The quorum (R104) -/

theorem quorumCondition_iff (quorum count : Nat) : quorumCondition quorum count = true ↔ quorum ≠ 0 ∧ quorum ≤ count := by
  simp [quorumCondition]

section
variable {s : State}

theorem formQuorum_of_same (same : quorumCondition s.setup.quorum s.station.alertCount = s.station.quorumMet) :
    formQuorum s = s := if_pos same

theorem formQuorum_enters_storm (met : quorumCondition s.setup.quorum s.station.alertCount = true)
    (unmet : s.station.quorumMet = false) (below : s.station.state ≠ .storm) :
    formQuorum s = takeChange .station s.station.state.rank StationState.storm.rank
      { s with station := { s.station with quorumMet := true, state := .storm, watchRun := 0, holdTimer := none }
               stormOut := true } := by
  unfold formQuorum quorumBecomesMet
  dsimp only
  rw [met, unmet, if_neg Bool.noConfusion, if_pos rfl]
  cases state : s.station.state
  case storm => exact absurd state below
  all_goals
    exact (enterStation_of_ne (by simp [stopHold, setWatchRun])).trans (by
      simp only [stopHold, setWatchRun, State.setStation_station]; rfl)

theorem formQuorum_in_storm (met : quorumCondition s.setup.quorum s.station.alertCount = true)
    (unmet : s.station.quorumMet = false) (storm : s.station.state = .storm) :
    formQuorum s = { s with station := { s.station with quorumMet := true, holdTimer := none } } := by
  unfold formQuorum quorumBecomesMet
  dsimp only
  rw [met, unmet, if_neg Bool.noConfusion, if_pos rfl]
  simp only [State.setStation_station, storm]
  rfl

theorem formQuorum_ends (ended : quorumCondition s.setup.quorum s.station.alertCount = false)
    (was : s.station.quorumMet = true) :
    formQuorum s =
      { s with station := { s.station with quorumMet := false, holdTimer := some (s.setup.holdTime * 3000) } } := by
  unfold formQuorum
  dsimp only
  rw [ended, was, if_neg Bool.noConfusion, if_neg Bool.noConfusion]
  rfl

end

theorem countAfter_eq (old new : Level) (n : Nat) :
    countAfter old new n =
      if old.num < 2 ∧ 2 ≤ new.num then n + 1 else if 2 ≤ old.num ∧ new.num < 2 then n - 1 else n := by
  cases old <;> cases new <;> rfl

/-- Settles O46: the clauses are the ways in which the quorum is formed. -/
theorem levelNoticeFormsTheQuorum : Obligations.LevelNoticeFormsTheQuorum := by
  intro s old new count met r t
  have counted : countAfter old new s.station.alertCount = count := countAfter_eq ..
  have formed : t = formQuorum (s.setStation r) := by
    show levelNotice old new s = _
    unfold levelNotice
    rw [counted]
  have isMet : met → quorumCondition s.setup.quorum count = true := (quorumCondition_iff _ _).2
  have notMet : ¬met → quorumCondition s.setup.quorum count = false :=
    fun no => Bool.eq_false_iff.2 (mt (quorumCondition_iff _ _).1 no)
  refine ⟨fun yes was => ?_, fun no was => ?_, fun yes was below => ?_, fun yes was storm => ?_, fun no was => ?_⟩
  · exact formed.trans (formQuorum_of_same ((isMet yes).trans was.symm))
  · exact formed.trans (formQuorum_of_same ((notMet no).trans was.symm))
  · exact formed.trans (formQuorum_enters_storm (s := s.setStation r) (isMet yes) was below)
  · exact formed.trans (formQuorum_in_storm (s := s.setStation r) (isMet yes) was storm)
  · exact formed.trans (formQuorum_ends (s := s.setStation r) (notMet no) was)

/-! ### The hold timer's expiry (R103) -/

/-- Settles O47: a running timer's expiry enters the state below. -/
theorem holdTimerExpiryDropsTheStation : Obligations.HoldTimerExpiryDropsTheStation := by
  intro s
  have row : exec .holdTimerExpiry s = .next (holdExpires s) := rfl
  unfold holdExpires at row
  refine ⟨fun stopped => ?_, fun runs watch => ?_, fun runs storm => ?_⟩
  · rw [row, stopped]
    rfl
  · rw [row, if_pos runs, watch]
    refine congrArg _ ((enterStation_of_ne (by rw [stopHold, setWatchRun]; simp [watch])).trans ?_)
    simp only [stopHold, setWatchRun, State.setStation_station, watch]
    rfl
  · rw [row, if_pos runs, storm]
    refine congrArg _ ((enterStation_of_ne (by rw [startHold]; simp [storm])).trans ?_)
    simp only [startHold, State.setStation_station, storm]
    rfl

/-! ### The arbiter (R164) -/

namespace FrameHandler

variable {f : FrameHandler}

theorem arbitrate_of_free (free : f.txB = none) : f.arbitrate = if f.ownTurn then f.startOwn else f.startForward := by
  unfold arbitrate
  rw [free]

theorem ownWaiting_of_ready {frame : List Byte} (ready : f.response = .ready frame) : f.ownWaiting = true :=
  f.ownWaiting_iff.2 (.inl ⟨frame, ready⟩)

theorem ownTurn_iff (run : f.forwardRun ≤ 8) :
    f.ownTurn = true ↔ f.ownWaiting = true ∧ (f.aToB = [] ∨ f.forwardRun = 8) := by
  unfold ownTurn Config.maxForwardRun
  rw [Bool.and_eq_true, Bool.or_eq_true, List.isEmpty_iff, decide_eq_true_eq]
  exact and_congr_right fun _ => or_congr_right ⟨fun ge => Nat.le_antisymm run ge, Nat.le_of_eq ∘ Eq.symm⟩

theorem startOwn_of_ready {frame : List Byte} (ready : f.response = .ready frame) :
    f.startOwn = { f with response := .sending, txB := some (.response, frame), forwardRun := 0 } := by
  unfold startOwn
  rw [ready]

theorem startOwn_of_status {frame : List Byte} (other : ∀ r, f.response ≠ .ready r) (status : f.status = some frame) :
    f.startOwn = { f with status := none, txB := some (.status, frame), forwardRun := 0 } := by
  unfold startOwn
  rw [status]
  cases response : f.response
  case ready r => exact absurd response (other r)
  all_goals rfl

theorem startForward_of_cons {frame : List Byte} {rest : List (List Byte)} (queue : f.aToB = frame :: rest) :
    f.startForward = { f with aToB := rest, txB := some (.forward, frame)
                              forwardRun := if f.ownWaiting then f.forwardRun + 1 else f.forwardRun } := by
  unfold startForward
  rw [queue]

theorem startForward_of_nil (queue : f.aToB = []) : f.startForward = f := by
  unfold startForward
  rw [queue]

theorem arbitrate_of_turn (free : f.txB = none) (run : f.forwardRun ≤ 8) (own : f.ownWaiting = true)
    (turn : f.aToB = [] ∨ f.forwardRun = 8) : f.arbitrate = f.startOwn := by
  rw [arbitrate_of_free free, if_pos ((ownTurn_iff run).2 ⟨own, turn⟩)]

theorem arbitrate_of_forward (free : f.txB = none) (run : f.forwardRun ≤ 8)
    (forward : ¬(f.ownWaiting = true ∧ (f.aToB = [] ∨ f.forwardRun = 8))) : f.arbitrate = f.startForward := by
  rw [arbitrate_of_free free, if_neg (mt (ownTurn_iff run).1 forward)]

/-- Within as many completions as the forward run has left, and one, a READY response is started. -/
theorem completeB_starts_response {frame : List Byte} (arrivals : List (List (List Byte))) (run : f.forwardRun ≤ 8)
    (ready : f.response = .ready frame) (enough : 9 ≤ f.forwardRun + arrivals.length) :
    ∃ n, 1 ≤ n ∧ n ≤ arrivals.length ∧ ((arrivals.take n).foldl completeB f).txB = some (.response, frame) := by
  induction arrivals generalizing f with
  | nil => simp at enough; omega
  | cons waiting arrivals ih =>
    let g : FrameHandler := { f with txB := none, aToB := waiting }
    have own : g.ownWaiting = true := ownWaiting_of_ready (f := g) ready
    by_cases turn : g.aToB = [] ∨ g.forwardRun = 8
    · refine ⟨1, le_rfl, Nat.le_add_left 1 _, ?_⟩
      show g.arbitrate.txB = _
      rw [arbitrate_of_turn (f := g) rfl run own turn, startOwn_of_ready (f := g) ready]
    · obtain ⟨filled, below⟩ := not_or.1 turn
      obtain ⟨oldest, rest, queue⟩ := List.exists_cons_of_ne_nil filled
      have next : f.completeB waiting = _ :=
        (arbitrate_of_forward (f := g) rfl run fun both => turn both.2).trans (startForward_of_cons queue)
      rw [if_pos own] at next
      have room : g.forwardRun + 1 ≤ 8 := by
        have : g.forwardRun ≤ 8 := run
        omega
      obtain ⟨n, low, high, started⟩ := ih (f := f.completeB waiting) (by rw [next]; exact room) (by rw [next]; exact ready) (by
        rw [next]
        show 9 ≤ f.forwardRun + 1 + arrivals.length
        rw [List.length_cons] at enough
        omega)
      exact ⟨n + 1, by omega, Nat.succ_le_succ high, started⟩

end FrameHandler

/-- Settles O51, from the bound that counts the turns the forward run has left (`completeB_starts_response`). -/
theorem responseWaitsForEightFramesAtMost : Obligations.ResponseWaitsForEightFramesAtMost := by
  intro f frame arrivals run ready length
  obtain ⟨n, low, high, started⟩ := FrameHandler.completeB_starts_response arrivals run ready (by omega)
  exact ⟨n, low, length ▸ high, started⟩

/-! ### Transmit completions (R157, R159, R164) -/

theorem startPortA_of_free {f : FrameHandler} (free : f.txA = none) :
    f.startPortA = { f with txA := f.bToA.head?, bToA := f.bToA.tail } := by
  unfold FrameHandler.startPortA
  cases queue : f.bToA with
  | nil => rw [free]; exact congrArg₂ (fun a b => { f with txA := a, bToA := b }) free queue
  | cons frame rest => rw [free]; rfl

/-- Settles O52: the arbiter by its two steps, and each completion as the transmitter freed and a decision. -/
theorem portsSendInTurn : Obligations.PortsSendInTurn := by
  refine ⟨fun f free run => ⟨fun frame ready turn => ?_, fun frame other status turn => ?_,
    fun frame rest queue own below => ?_, fun frame rest queue other status => ?_, fun queue other status => ?_⟩,
    fun s => ⟨fun idle => ?_, fun sends => ?_, fun idle => ?_, fun kind frame sends other => ?_,
      fun frame sends unarmed => ?_⟩,
    fun s => ⟨rfl, fun busy => ?_, fun still => ?_, fun frame rest free queue => ?_⟩⟩
  · rw [FrameHandler.arbitrate_of_turn free run (FrameHandler.ownWaiting_of_ready ready) turn,
      FrameHandler.startOwn_of_ready ready]
  · have own : f.ownWaiting = true := f.ownWaiting_iff.2 (.inr (by rw [status]; nofun))
    rw [FrameHandler.arbitrate_of_turn free run own turn, FrameHandler.startOwn_of_status other status]
  · have waiting : f.ownWaiting = true := f.ownWaiting_iff.2 own
    have forward : ¬(f.ownWaiting = true ∧ (f.aToB = [] ∨ f.forwardRun = 8)) := fun both =>
      both.2.elim (fun none => by rw [queue] at none; cases none) below
    rw [FrameHandler.arbitrate_of_forward free run forward, FrameHandler.startForward_of_cons queue, if_pos waiting]
  · have waiting : ¬f.ownWaiting = true := fun own =>
      (f.ownWaiting_iff.1 own).elim (fun ⟨r, ready⟩ => other r ready) fun some => some status
    rw [FrameHandler.arbitrate_of_forward free run fun both => waiting both.1, FrameHandler.startForward_of_cons queue,
      if_neg waiting]
  · have waiting : ¬f.ownWaiting = true := fun own =>
      (f.ownWaiting_iff.1 own).elim (fun ⟨r, ready⟩ => other r ready) fun some => some status
    rw [FrameHandler.arbitrate_of_forward free run fun both => waiting both.1, FrameHandler.startForward_of_nil queue]
  · show Host.Outcome.next (portACompletes s) = _
    unfold portACompletes
    rw [idle]
    rfl
  · show Host.Outcome.next (portACompletes s) = _
    unfold portACompletes
    rw [if_pos (Option.isSome_iff_ne_none.2 sends)]
    exact congrArg (fun f => Host.Outcome.next (s.setFrames f)) (startPortA_of_free (f := { s.frames with txA := none }) rfl)
  · show Host.Outcome.next (portBCompletes responseSent s) = _
    unfold portBCompletes
    rw [idle]
  · show Host.Outcome.next (portBCompletes responseSent s) = _
    unfold portBCompletes
    rw [sends]
    cases kind
    case response => exact absurd rfl other
    all_goals rfl
  · show Host.Outcome.next (portBCompletes responseSent s) = _
    unfold portBCompletes
    rw [sends]
    exact congrArg _ (if_neg (show ¬s.restartArmed = true by rw [unarmed]; exact Bool.false_ne_true))
  · exact congrArg s.setFrames (s.frames.arbitrate_busy (Option.isSome_iff_ne_none.2 busy))
  · refine congrArg s.setFrames (?_ : s.frames.startPortA = s.frames)
    unfold FrameHandler.startPortA
    split
    · next free queue =>
      exact still.elim (absurd free) fun none => by rw [queue] at none; cases none
    · rfl
  · refine congrArg s.setFrames ((startPortA_of_free free).trans ?_)
    rw [queue]
    rfl

end Sys2Proof.Machine

/-! PROOF. The status frame and the uptime second (R160 to R162, R186). -/

namespace Sys2Proof.Machine

/-! ### The status frame's body (R186) -/

theorem be8_statusFlags (eligible full overrun valid : Bool) :
    be8 (eligible.toNat + 2 * full.toNat + 4 * overrun.toNat + 8 * valid.toNat) =
      ([(if eligible then 1 else 0) + (if full then 2 else 0) + (if overrun then 4 else 0)
        + (if valid then 8 else 0)] : List Byte) := by
  cases eligible <;> cases full <;> cases overrun <;> cases valid <;> rfl

theorem be8_statusXf (serves unack : Bool) (level : Level) (quality : Quality) :
    be8 (serves.toNat + 2 * level.num + 8 * quality.code + 32 * unack.toNat) =
      ([(if serves then 1 else 0)
        + 2 * (match level with | .quiet => 0 | .watch => 1 | .alert => 2 | .alarm => 3)
        + 8 * (match quality with | .good => 0 | .degraded => 1 | .noData => 2)
        + (if unack then 32 else 0)] : List Byte) := by
  cases serves <;> cases unack <;> cases level <;> cases quality <;> rfl

theorem statusXfBytes_length (r : XfRec) : (statusXfBytes r).length = 5 := rfl

theorem normBytes_length (norm : Option Nat) : (normBytes norm).length = 2 := by cases norm <;> rfl

theorem statusBody_length (s : State) : s.statusBody.length = 89 := by
  have xfs : ((List.finRange 16).flatMap fun t => statusXfBytes s.xfs[t]).length = 80 := by
    rw [List.length_flatMap]
    simp only [statusXfBytes_length]
    rfl
  unfold State.statusBody
  rw [List.length_append, xfs]
  simp only [List.length_append, normBytes_length]
  rfl

/-- Settles O53: the expiry is the frame put in the slot and a decision; the second count leaves all but the clock and the
timers; the body is its bytes field by field. -/
theorem statusAndUptime : Obligations.StatusAndUptime := by
  intro s
  have expiry : exec .statusTimerExpiry s = .next (statusExpires s) := rfl
  have second : exec .uptimeSecondCount s = .next (countUptimeSecond s) := rfl
  refine ⟨fun runs due => ?_, fun idle => ?_, fun stopped => ?_, fun runs => ?_, ?_, s.frames.ownWaiting_iff⟩
  · intro taken
    have built : exec .statusTimerExpiry s = .next (arbiter (buildStatus { s with clock := taken })) := by
      rw [expiry]
      exact congrArg _ (if_pos ⟨runs, due⟩)
    refine ⟨fun empty => ?_, fun unsent full => ?_⟩
    · rw [built]
      unfold buildStatus
      rw [if_neg (show ¬s.frames.status.isSome = true by rw [empty]; exact Bool.false_ne_true)]
      unfold FrameHandler.putStatus FrameHandler.noteOwn
      dsimp only
      split <;> rfl
    · have waiting : s.frames.ownWaiting = true := s.frames.ownWaiting_iff.2 (.inr (by rw [full]; nofun))
      have put : ∀ frame, s.frames.putStatus frame = { s.frames with status := some frame } := fun frame => by
        unfold FrameHandler.putStatus FrameHandler.noteOwn
        rw [if_pos waiting]
      rw [built]
      unfold buildStatus
      rw [if_pos (show s.frames.status.isSome = true by rw [full]; rfl)]
      dsimp only
      rw [put]
      rfl
  · rw [expiry]
    exact congrArg _ (if_neg fun both => idle.elim (absurd both.1) (by rw [both.2]; nofun))
  · rw [second]
    exact congrArg _ (if_neg stopped)
  · refine ⟨_, _, second.trans (congrArg _ (if_pos runs)), rfl, fun c => ?_⟩
    exact tabulate_get _ c
  · intro w2 w4 one bit
    refine ⟨statusBody_length s, ?_⟩
    unfold State.statusBody State.statusFlags statusXfBytes
    rw [be32_eq_be16_append, be8_station_rank, normBytes_eq, be8_statusFlags]
    simp only [be8_statusXf]
    rfl

end Sys2Proof.Machine

/-! PROOF. Images restore their records (R177 to R179, R185). -/

namespace Sys2Proof.Machine

/-! ### Sealed images -/

theorem openImage_eq_some {n : Nat} {i : Image} {bs : List Byte} (opens : openImage n i = some bs) :
    bs.length = n ∧ i = sealImage bs := by
  cases i with
  | torn => cases opens
  | whole bytes =>
    unfold openImage at opens
    dsimp only at opens
    split at opens
    · next holds =>
      obtain ⟨length, check⟩ := holds
      cases opens
      refine ⟨by rw [List.length_take]; omega, congrArg Image.whole ?_⟩
      rw [check, be16_u16 (by omega), take_append_bytesAt]
      exact (List.take_of_length_le length.le).symm
    · cases opens

/-- The bytes of a sealed image's last byte, read back. -/
theorem u8_append_flagByte {before : List Byte} {n : Nat} (length : before.length = n) (b : Bool) :
    u8 (before ++ flagByte b) n = b.toNat := by
  subst length
  unfold u8
  rw [List.getD_append_right _ _ _ _ (Nat.le_refl _), Nat.sub_self]
  cases b <;> rfl

theorem Bool.toNat_beq_one (b : Bool) : (b.toNat == 1) = b := by cases b <;> rfl

/-! ### The setup image -/

theorem setupFieldBytes_length (e : Setup) : (setupFieldBytes e).length = 10 := rfl

theorem setupOfImage_sealed {e : Setup} (range : e.InRange) : setupOfImage (sealImage (setupImageBytes e)) = some e := by
  obtain ⟨ok, read⟩ := setupFieldBytes_read e range (be8 e.guardSpan.code ++ flagByte e.lockFlag) e.guardSpan e.lockFlag
  rw [← List.append_assoc] at ok read
  have span : u8 (setupFieldBytes e ++ be8 e.guardSpan.code ++ flagByte e.lockFlag) 10 = e.guardSpan.code :=
    toNat_ofNat_of_lt (Nat.lt_of_le_of_lt e.guardSpan.code_le (by decide))
  have flag : u8 (setupFieldBytes e ++ be8 e.guardSpan.code ++ flagByte e.lockFlag) 11 = e.lockFlag.toNat :=
    u8_append_flagByte (by rw [List.length_append, setupFieldBytes_length]; rfl) _
  unfold setupOfImage
  rw [openImage_sealImage 12 _ rfl]
  unfold setupImageBytes
  dsimp only
  rw [ok, span, flag, GuardSpan.ofCode_code, Bool.toNat_beq_one, read,
    if_pos ⟨rfl, e.guardSpan.code_le, Bool.toNat_le _⟩]

theorem setupOfImage_eq_some {i : Image} {e : Setup} (restores : setupOfImage i = some e) :
    e.InRange ∧ i = sealImage (setupImageBytes e) := by
  unfold setupOfImage at restores
  split at restores
  · cases restores
  next p opens =>
  split at restores
  · next holds =>
    obtain ⟨ok, span, flag⟩ := holds
    obtain ⟨length, rfl⟩ := openImage_eq_some opens
    cases restores
    obtain ⟨range, fields⟩ := setupOfFields_spec (p := p) (by omega) ok (GuardSpan.ofCode (u8 p 10)) (u8 p 11 == 1)
    refine ⟨range, congrArg sealImage ?_⟩
    unfold setupImageBytes
    rw [fields]
    show p = p.take 10 ++ be8 (GuardSpan.ofCode (u8 p 10)).code ++ flagByte (u8 p 11 == 1)
    rw [GuardSpan.code_ofCode span, be8_u8 (by omega), flagByte_u8 (by omega) flag, take_append_bytesAt,
      take_append_bytesAt]
    exact (List.take_of_length_le length.le).symm
  · cases restores

/-! ### The channel image -/

theorem channelFieldBytes_length (e : ChannelEntry) : (channelFieldBytes e).length = 12 := rfl

theorem channelOfImage_sealed {e : ChannelEntry} (range : e.InRange) :
    channelOfImage (sealImage (channelImageBytes e)) = some e := by
  obtain ⟨ok, read⟩ := channelFieldBytes_read e range (flagByte e.inService) e.inService
  have flag : u8 (channelFieldBytes e ++ flagByte e.inService) 12 = e.inService.toNat :=
    u8_append_flagByte (channelFieldBytes_length e) _
  unfold channelOfImage
  rw [openImage_sealImage 13 _ rfl]
  unfold channelImageBytes
  dsimp only
  rw [ok, flag, Bool.toNat_beq_one, read, if_pos ⟨rfl, Bool.toNat_le _⟩]

theorem channelOfImage_eq_some {i : Image} {e : ChannelEntry} (restores : channelOfImage i = some e) :
    e.InRange ∧ i = sealImage (channelImageBytes e) := by
  unfold channelOfImage at restores
  split at restores
  · cases restores
  next p opens =>
  split at restores
  · next holds =>
    obtain ⟨ok, flag⟩ := holds
    obtain ⟨length, rfl⟩ := openImage_eq_some opens
    cases restores
    obtain ⟨range, fields⟩ := channelOfFields_spec (p := p) (by omega) ok (u8 p 12 == 1)
    refine ⟨range, congrArg sealImage ?_⟩
    unfold channelImageBytes
    rw [fields]
    show p = p.take 12 ++ flagByte (u8 p 12 == 1)
    rw [flagByte_u8 (by omega) flag, take_append_bytesAt]
    exact (List.take_of_length_le length.le).symm
  · cases restores

/-! ### The transformer image -/

theorem xfOfImage_sealed {e : XfEntry} (range : e.InRange) : xfOfImage (sealImage (xfImageBytes e)) = some e := by
  obtain ⟨ok, read⟩ := xfFieldBytes_read e range (flagByte e.inService) e.inService
  have flag : u8 (xfFieldBytes e ++ flagByte e.inService) 35 = e.inService.toNat :=
    u8_append_flagByte (xfFieldBytes_length e) _
  have length : (xfImageBytes e).length = 36 := by
    unfold xfImageBytes
    rw [List.length_append, xfFieldBytes_length]
    rfl
  unfold xfOfImage
  rw [openImage_sealImage 36 _ length]
  unfold xfImageBytes
  dsimp only
  rw [ok, flag, Bool.toNat_beq_one, read, if_pos ⟨rfl, Bool.toNat_le _⟩]

theorem xfOfImage_eq_some {i : Image} {e : XfEntry} (restores : xfOfImage i = some e) :
    e.InRange ∧ i = sealImage (xfImageBytes e) := by
  unfold xfOfImage at restores
  split at restores
  · cases restores
  next p opens =>
  split at restores
  · next holds =>
    obtain ⟨ok, flag⟩ := holds
    obtain ⟨length, rfl⟩ := openImage_eq_some opens
    cases restores
    obtain ⟨range, fields⟩ := xfOfFields_spec (p := p) (by omega) ok (u8 p 35 == 1)
    refine ⟨range, congrArg sealImage ?_⟩
    unfold xfImageBytes
    rw [fields]
    show p = p.take 35 ++ flagByte (u8 p 35 == 1)
    rw [flagByte_u8 (by omega) flag, take_append_bytesAt]
    exact (List.take_of_length_le length.le).symm
  · cases restores

/-- Settles O55: sealed records open to themselves, and what opens in range is a sealed record. -/
theorem imagesRestoreTheirRecords : Obligations.ImagesRestoreTheirRecords :=
  ⟨fun _ => setupOfImage_sealed, fun _ => channelOfImage_sealed, fun _ => xfOfImage_sealed, rfl, rfl, rfl, fun _ => rfl,
    fun _ _ => setupOfImage_eq_some, fun _ _ => channelOfImage_eq_some, fun _ _ => xfOfImage_eq_some⟩

end Sys2Proof.Machine

/-! PROOF. RESET and POWER LOSS end the working state and tear a write in progress (O60). -/

namespace Sys2Proof.Machine

theorem tearWrite_of_none {s : State} (idle : s.write = none) : tearWrite s = s := by
  unfold tearWrite
  rw [idle]

theorem tearWrite_of_some {s : State} {w : StoreWrite} (writing : s.write = some w) :
    tearWrite s = { s with store := w.replaceImage .torn s.store, write := none } := by
  unfold tearWrite
  rw [writing]

@[simp] theorem tearWrite_stationAddress (s : State) : (tearWrite s).stationAddress = s.stationAddress := by
  unfold tearWrite
  split <;> rfl

theorem holdInReset_of_open {s : State} (open_ : s.phase = .running ∨ s.phase = .restoring) :
    holdInReset s = discardWorking .heldInReset (tearWrite s) := by
  unfold holdInReset
  obtain h | h := open_ <;> rw [h]

theorem holdInReset_of_closed {s : State} (closed : s.phase = .powerAbsent ∨ s.phase = .heldInReset) :
    holdInReset s = s := by
  unfold holdInReset
  obtain h | h := closed <;> rw [h]

/-- The store that tearing a write leaves, kind by kind (R178). -/
theorem tearWrite_store {s : State} :
    (s.write = none → (tearWrite s).store = s.store) ∧
    (∀ w, s.write = some w → (tearWrite s).store =
      (match w with
        | .setup _ => { s.store with setup := .torn }
        | .guardSpan _ => { s.store with setup := .torn }
        | .channelEntry c _ => { s.store with channels := s.store.channels.set c .torn }
        | .channelService c _ => { s.store with channels := s.store.channels.set c .torn }
        | .xfEntry x _ => { s.store with xfs := s.store.xfs.set x .torn }
        | .xfService x _ => { s.store with xfs := s.store.xfs.set x .torn })) := by
  refine ⟨fun idle => by rw [tearWrite_of_none idle], fun w writing => ?_⟩
  rw [tearWrite_of_some writing]
  cases w <;> rfl

theorem discardWorking_bank (phase : Phase) (s : State) (b : BankId) :
    (discardWorking phase s).bank b = BankRec.empty := reset_bank b

theorem discardWorking_channel (phase : Phase) (s : State) (c : Channel) :
    (discardWorking phase s).channel c = ChannelRec.off := reset_channel c

theorem discardWorking_xf (phase : Phase) (s : State) (x : Xf) :
    (discardWorking phase s).xf x = XfRec.off := reset_xf x

/-- Settles O60: either end is `discardWorking` after the tearing of a write, whose values are those of a bypass
opening. -/
theorem resetAndPowerLossEndTheWork : Obligations.ResetAndPowerLossEndTheWork := by
  intro s
  refine ⟨fun opened => ⟨_, rfl, ?_⟩, fun closed => ?_, ⟨_, rfl, rfl⟩, fun i t command ht => ?_, ?_⟩
  · show (holdInReset s).phase = _
    rw [holdInReset_of_open opened]
    rfl
  · exact congrArg Host.Outcome.next (holdInReset_of_closed closed)
  · have ended : ∃ phase, t = discardWorking phase (tearWrite s) := by
      obtain rfl | ⟨rfl, opened⟩ := command
      · exact ⟨_, (Host.Outcome.next.inj ht).symm⟩
      · exact ⟨_, (Host.Outcome.next.inj ht).symm.trans (holdInReset_of_open opened)⟩
    obtain ⟨phase, rfl⟩ := ended
    refine ⟨rfl, rfl, rfl, rfl, rfl, discardWorking_bank _ _, fun c => ?_, fun x => ?_, rfl, rfl,
      tearWrite_stationAddress s, tearWrite_store⟩
    · rw [discardWorking_channel]
      exact ⟨rfl, rfl⟩
    · rw [discardWorking_xf]
      rfl
  · by_cases taken : Config.shortSpellTaken s.shortSpells = true
    · exact ⟨_, rfl, .inr (congrArg Host.Outcome.next (if_pos taken).symm)⟩
    · exact ⟨_, rfl, .inl (if_neg taken)⟩

end Sys2Proof.Machine

/-! PROOF. What a restore's reading of the store leaves (R179): the live tables image by image, and the TABLE bank and
the event queue after the reports of the failed images, taken as one list in their order. -/

namespace Sys2Proof.Machine

/-! ### The tables beside the banks and the queue -/

/-- `s` with other live tables. -/
def State.withTables (s : State) (e : Setup) (cs : Vector ChannelEntry 40) (xs : Vector XfEntry 16) : State :=
  { s with setup := e, channelEntries := cs, xfEntries := xs }

theorem replaceBank_withTables (b : BankId) (r : BankRec) (s : State) (e : Setup) (cs : Vector ChannelEntry 40)
    (xs : Vector XfEntry 16) : replaceBank b r (s.withTables e cs xs) = (replaceBank b r s).withTables e cs xs := by
  unfold replaceBank
  rw [apply_ite (fun u => State.withTables u e cs xs)]
  rfl

theorem report_withTables (b : BankId) (code : ErrorCode) (subject : Byte) (s : State) (e : Setup)
    (cs : Vector ChannelEntry 40) (xs : Vector XfEntry 16) :
    report b code subject (s.withTables e cs xs) = (report b code subject s).withTables e cs xs := by
  unfold report
  rw [apply_ite (fun u => State.withTables u e cs xs), ← replaceBank_withTables]
  rfl

/-! ### The reports of a restore, in their order -/

/-- A list of reports to the TABLE bank, code and subject, taken in turn. -/
def reportAll (fs : List (ErrorCode × Nat)) (s : State) : State :=
  fs.foldl (fun u f => report .table f.1 (subjectOf f.2) u) s

/-- The failures that a restore of a store reports: the setup record, then the transformers, then the channels (R179). -/
def Store.failed (st : Store) : List (ErrorCode × Nat) :=
  (if (setupOfImage st.setup).isNone then [(.setupCheckFail, 255)] else []) ++
    (((List.finRange 16).filter (fun t => (xfOfImage st.xfs[t]).isNone)).map (fun t => (.entryCheckFail, 40 + t.val)) ++
    ((List.finRange 40).filter (fun c => (channelOfImage st.channels[c]).isNone)).map (fun c => (.entryCheckFail, c.val)))

theorem Store.failed_length (st : Store) : st.failed.length = st.failures := by
  unfold Store.failed Store.failures
  rw [List.length_append, List.length_append, List.length_map, List.length_map, ← List.countP_eq_length_filter,
    ← List.countP_eq_length_filter, apply_ite List.length]
  exact (Nat.add_assoc _ _ _).symm

theorem Store.failures_le (st : Store) : st.failures ≤ 57 := by
  have xfs := (List.countP_le_length (p := fun t : Fin 16 => (xfOfImage st.xfs[t]).isNone) (l := List.finRange 16))
  have channels :=
    (List.countP_le_length (p := fun c : Fin 40 => (channelOfImage st.channels[c]).isNone) (l := List.finRange 40))
  rw [List.length_finRange] at xfs channels
  unfold Store.failures
  split_ifs <;> omega

theorem Store.failed_uncorrected {st : Store} {f : ErrorCode × Nat} (hf : f ∈ st.failed) :
    f.1.errorClass = .uncorrected := by
  rcases List.mem_append.1 hf with h | h
  · split_ifs at h
    · obtain rfl := List.mem_singleton.1 h
      rfl
    · exact absurd h List.not_mem_nil
  · rcases List.mem_append.1 h with h | h
    all_goals
      obtain ⟨_, _, rfl⟩ := List.mem_map.1 h
      rfl

/-- The first that passes a filter of `finRange` passes, and none below it does. -/
theorem head_of_filter_finRange {n : Nat} {p : Fin n → Bool} {a : Fin n} {l : List (Fin n)}
    (h : (List.finRange n).filter p = a :: l) : p a = true ∧ ∀ o, o < a → ¬ p o = true := by
  obtain ⟨before, after, split, none_before, passes, -⟩ := List.filter_eq_cons_iff.1 h
  refine ⟨passes, fun o less => none_before o ?_⟩
  have member : o ∈ before ++ a :: after := split ▸ List.mem_finRange o
  have sorted : (before ++ a :: after).Pairwise (· < ·) := split ▸ List.pairwise_lt_finRange n
  obtain ⟨-, right, -⟩ := List.pairwise_append.1 sorted
  rcases List.mem_append.1 member with h | h
  · exact h
  · rcases List.mem_cons.1 h with rfl | h
    · exact absurd less (lt_irrefl _)
    · exact absurd (lt_trans less (List.rel_of_pairwise_cons right h)) (lt_irrefl _)

theorem Store.failed_head {st : Store} (fails : st.failures ≠ 0) :
    ∃ (code : ErrorCode) (subject : Nat), st.failed.head? = some (code, subject) ∧ st.FirstFailure code subject := by
  by_cases setup : setupOfImage st.setup = none
  · have setupReads : (if (setupOfImage st.setup).isNone then [(ErrorCode.setupCheckFail, 255)] else []) =
        [(ErrorCode.setupCheckFail, 255)] := if_pos (by simpa using setup)
    refine ⟨.setupCheckFail, 255, ?_, .inl ⟨setup, rfl, rfl⟩⟩
    rw [Store.failed, setupReads]
    rfl
  · have setupReads : (if (setupOfImage st.setup).isNone then [(ErrorCode.setupCheckFail, 255)] else []) = [] :=
      if_neg (by simpa using setup)
    cases xfs : (List.finRange 16).filter (fun t => (xfOfImage st.xfs[t]).isNone) with
    | cons t ts =>
      obtain ⟨fails, before⟩ := head_of_filter_finRange xfs
      refine ⟨.entryCheckFail, 40 + t.val, ?_, .inr (.inl ⟨setup, t, by simpa using fails, ?_, rfl, rfl⟩)⟩
      · rw [Store.failed, setupReads, xfs]
        rfl
      · exact fun o less => by simpa using before o less
    | nil =>
      cases channels : (List.finRange 40).filter (fun c => (channelOfImage st.channels[c]).isNone) with
      | cons c cs =>
        obtain ⟨fails, before⟩ := head_of_filter_finRange channels
        refine ⟨.entryCheckFail, c.val, ?_, .inr (.inr ⟨setup, fun t => ?_, c, by simpa using fails, ?_, rfl, rfl⟩)⟩
        · rw [Store.failed, setupReads, xfs, channels]
          rfl
        · simpa using List.filter_eq_nil_iff.1 xfs t (List.mem_finRange t)
        · exact fun o less => by simpa using before o less
      | nil =>
        refine absurd ?_ fails
        rw [← Store.failed_length, Store.failed, setupReads, xfs, channels]
        rfl

/-! ### The restore as its reports and its tables -/

/-- `t` is `s` after the reports `fs`, with some live tables. -/
def State.RestoresWith (s : State) (fs : List (ErrorCode × Nat)) (t : State) : Prop :=
  t = (reportAll fs s).withTables t.setup t.channelEntries t.xfEntries

theorem State.RestoresWith.nil (s : State) : s.RestoresWith [] s := rfl

theorem State.RestoresWith.tables {s t : State} {fs : List (ErrorCode × Nat)} (h : s.RestoresWith fs t) (e : Setup)
    (cs : Vector ChannelEntry 40) (xs : Vector XfEntry 16) : s.RestoresWith fs (t.withTables e cs xs) := by
  unfold RestoresWith at *
  conv_lhs => rw [h]
  rfl

theorem State.RestoresWith.report {s t : State} {fs : List (ErrorCode × Nat)} (h : s.RestoresWith fs t)
    (code : ErrorCode) (n : Nat) : s.RestoresWith (fs ++ [(code, n)]) (report .table code (subjectOf n) t) := by
  unfold RestoresWith at *
  have taken : reportAll (fs ++ [(code, n)]) s = Machine.report .table code (subjectOf n) (reportAll fs s) :=
    List.foldl_concat ..
  rw [taken, ← report_withTables]
  have kept : ∀ u : State, (Machine.report .table code (subjectOf n) u).setup = u.setup ∧
      (Machine.report .table code (subjectOf n) u).channelEntries = u.channelEntries ∧
      (Machine.report .table code (subjectOf n) u).xfEntries = u.xfEntries := fun u => by
    rw [report_eq]
    exact ⟨rfl, rfl, rfl⟩
  rw [(kept t).1, (kept t).2.1, (kept t).2.2, ← h]

theorem reportAll_eq (fs : List (ErrorCode × Nat)) (s : State) :
    reportAll fs s = { s with banks := (reportAll fs s).banks, queue := (reportAll fs s).queue } := by
  unfold reportAll
  induction fs generalizing s with
  | nil => rfl
  | cons f fs ih =>
    have first := report_eq .table f.1 (subjectOf f.2) s
    have rest := ih (report .table f.1 (subjectOf f.2) s)
    rw [List.foldl_cons]
    generalize report .table f.1 (subjectOf f.2) s = u at first rest
    rw [first] at rest
    rw [first]
    exact rest

theorem State.RestoresWith.store {s t : State} {fs : List (ErrorCode × Nat)} (h : s.RestoresWith fs t) :
    t.store = s.store := by
  unfold RestoresWith at h
  rw [h, reportAll_eq]
  rfl

theorem restoreSetup_restoresWith (s : State) :
    s.RestoresWith (if (setupOfImage s.store.setup).isNone then [(.setupCheckFail, 255)] else []) (restoreSetup s) := by
  unfold restoreSetup
  cases setupOfImage s.store.setup with
  | none => exact ((State.RestoresWith.nil s).tables Setup.factory s.channelEntries s.xfEntries).report _ 255
  | some e => exact (State.RestoresWith.nil s).tables e s.channelEntries s.xfEntries

theorem foldl_restoreXf_restoresWith {s : State} (ts : List Xf) {fs : List (ErrorCode × Nat)} {u : State}
    (h : s.RestoresWith fs u) :
    s.RestoresWith
      (fs ++ (ts.filter (fun t => (xfOfImage s.store.xfs[t]).isNone)).map (fun t => (.entryCheckFail, 40 + t.val)))
      (ts.foldl restoreXf u) := by
  induction ts generalizing fs u with
  | nil => rwa [List.filter_nil, List.map_nil, List.append_nil]
  | cons t ts ih =>
    rw [List.foldl_cons, List.filter_cons, restoreXf, h.store]
    cases xfOfImage s.store.xfs[t] with
    | none =>
      have taken := ih ((h.tables u.setup u.channelEntries (u.xfEntries.set t XfEntry.factory)).report
        .entryCheckFail (40 + t.val))
      rw [List.append_assoc] at taken
      exact taken
    | some e => exact ih (h.tables u.setup u.channelEntries (u.xfEntries.set t e))

theorem foldl_restoreChannel_restoresWith {s : State} (cs : List Channel) {fs : List (ErrorCode × Nat)} {u : State}
    (h : s.RestoresWith fs u) :
    s.RestoresWith
      (fs ++ (cs.filter (fun c => (channelOfImage s.store.channels[c]).isNone)).map (fun c => (.entryCheckFail, c.val)))
      (cs.foldl restoreChannel u) := by
  induction cs generalizing fs u with
  | nil => rwa [List.filter_nil, List.map_nil, List.append_nil]
  | cons c cs ih =>
    rw [List.foldl_cons, List.filter_cons, restoreChannel, h.store]
    cases channelOfImage s.store.channels[c] with
    | none =>
      have taken := ih ((h.tables u.setup (u.channelEntries.set c ChannelEntry.factory) u.xfEntries).report
        .entryCheckFail c.val)
      rw [List.append_assoc] at taken
      exact taken
    | some e => exact ih (h.tables u.setup (u.channelEntries.set c e) u.xfEntries)

/-- A restore reports the failures of the store in their order, and replaces the tables. -/
theorem restoreTables_restoresWith (s : State) : s.RestoresWith s.store.failed (restoreTables s) := by
  have restored := foldl_restoreChannel_restoresWith (List.finRange 40)
    (foldl_restoreXf_restoresWith (List.finRange 16) (restoreSetup_restoresWith s))
  rw [List.append_assoc] at restored
  exact restored

/-- Everything but the tables, the banks and the queue is as before a restore, and these two are as the reports of the
failures leave them. -/
theorem restoreTables_eq (s : State) : ∃ e cs xs, restoreTables s = (reportAll s.store.failed s).withTables e cs xs :=
  ⟨_, _, _, restoreTables_restoresWith s⟩

/-! ### The tables restored -/

theorem report_tables (b : BankId) (code : ErrorCode) (subject : Byte) (s : State) :
    (report b code subject s).store = s.store ∧ (report b code subject s).setup = s.setup ∧
      (report b code subject s).xfEntries = s.xfEntries ∧
      (report b code subject s).channelEntries = s.channelEntries := by
  rw [report_eq]
  exact ⟨rfl, rfl, rfl, rfl⟩

theorem restoreSetup_tables (s : State) :
    (restoreSetup s).store = s.store ∧
      (restoreSetup s).setup = (setupOfImage s.store.setup).getD Setup.factory := by
  unfold restoreSetup
  cases setupOfImage s.store.setup with
  | none =>
    obtain ⟨store, setup, -⟩ := report_tables .table .setupCheckFail noSubject (s.setSetup Setup.factory)
    exact ⟨store, setup⟩
  | some e => exact ⟨rfl, rfl⟩

/-- Restoring transformer `t`'s entry writes that entry alone. -/
theorem restoreXf_tables (s : State) (t : Xf) :
    (restoreXf s t).store = s.store ∧ (restoreXf s t).setup = s.setup ∧
      (restoreXf s t).xfEntries = s.xfEntries.set t ((xfOfImage s.store.xfs[t]).getD XfEntry.factory) ∧
      (restoreXf s t).channelEntries = s.channelEntries := by
  unfold restoreXf
  cases xfOfImage s.store.xfs[t] with
  | none => exact report_tables ..
  | some e => exact ⟨rfl, rfl, rfl, rfl⟩

/-- Restoring channel `c`'s entry writes that entry alone. -/
theorem restoreChannel_tables (s : State) (c : Channel) :
    (restoreChannel s c).store = s.store ∧ (restoreChannel s c).setup = s.setup ∧
      (restoreChannel s c).xfEntries = s.xfEntries ∧
      (restoreChannel s c).channelEntries =
        s.channelEntries.set c ((channelOfImage s.store.channels[c]).getD ChannelEntry.factory) := by
  unfold restoreChannel
  cases channelOfImage s.store.channels[c] with
  | none => exact report_tables ..
  | some e => exact ⟨rfl, rfl, rfl, rfl⟩

theorem foldl_restoreXf_tables (ts : List Xf) (s : State) :
    (ts.foldl restoreXf s).store = s.store ∧ (ts.foldl restoreXf s).setup = s.setup ∧
      ∀ t, (ts.foldl restoreXf s).xfEntry t =
        if t ∈ ts then (xfOfImage s.store.xfs[t]).getD XfEntry.factory else s.xfEntry t := by
  induction ts generalizing s with
  | nil => exact ⟨rfl, rfl, fun t => rfl⟩
  | cons a ts ih =>
    obtain ⟨store, setup, entries⟩ := ih (restoreXf s a)
    obtain ⟨storeA, setupA, entriesA, -⟩ := restoreXf_tables s a
    refine ⟨store.trans storeA, setup.trans setupA, fun t => ?_⟩
    have read : (restoreXf s a).xfEntry t =
        if a = t then (xfOfImage s.store.xfs[a]).getD XfEntry.factory else s.xfEntry t := by
      unfold State.xfEntry
      rw [entriesA]
      simp [Vector.getElem_set, Fin.ext_iff]
    rw [List.foldl_cons, entries, storeA, read]
    by_cases h : a = t
    · subst h
      simp
    · simp [h, Ne.symm h]

theorem foldl_restoreChannel_tables (cs : List Channel) (s : State) :
    (cs.foldl restoreChannel s).store = s.store ∧ (cs.foldl restoreChannel s).setup = s.setup ∧
      (cs.foldl restoreChannel s).xfEntries = s.xfEntries ∧
      ∀ c, (cs.foldl restoreChannel s).channelEntry c =
        if c ∈ cs then (channelOfImage s.store.channels[c]).getD ChannelEntry.factory else s.channelEntry c := by
  induction cs generalizing s with
  | nil => exact ⟨rfl, rfl, rfl, fun c => rfl⟩
  | cons a cs ih =>
    obtain ⟨store, setup, xfs, entries⟩ := ih (restoreChannel s a)
    obtain ⟨storeA, setupA, xfsA, entriesA⟩ := restoreChannel_tables s a
    refine ⟨store.trans storeA, setup.trans setupA, xfs.trans xfsA, fun c => ?_⟩
    have read : (restoreChannel s a).channelEntry c =
        if a = c then (channelOfImage s.store.channels[a]).getD ChannelEntry.factory else s.channelEntry c := by
      unfold State.channelEntry
      rw [entriesA]
      simp [Vector.getElem_set, Fin.ext_iff]
    rw [List.foldl_cons, entries, storeA, read]
    by_cases h : a = c
    · subst h
      simp
    · simp [h, Ne.symm h]

/-- A restore leaves the tables of the store, the factory default for each image that fails (R179). -/
theorem restoreTables_restored (s : State) : (restoreTables s).Restored := by
  have store := (restoreTables_restoresTo s).store
  obtain ⟨storeS, setupS⟩ := restoreSetup_tables s
  obtain ⟨storeX, setupX, entriesX⟩ := foldl_restoreXf_tables (List.finRange 16) (restoreSetup s)
  obtain ⟨-, setupC, xfsC, entriesC⟩ :=
    foldl_restoreChannel_tables (List.finRange 40) ((List.finRange 16).foldl restoreXf (restoreSetup s))
  unfold State.Restored
  rw [store]
  refine ⟨(setupC.trans setupX).trans setupS, fun t => ?_, fun c => ?_⟩
  · have same : (restoreTables s).xfEntry t = ((List.finRange 16).foldl restoreXf (restoreSetup s)).xfEntry t :=
      congrArg (fun es : Vector XfEntry 16 => es[t]) xfsC
    rw [same, entriesX, if_pos (List.mem_finRange t), storeS]
  · have read := entriesC c
    rw [if_pos (List.mem_finRange c), storeX, storeS] at read
    exact read

/-! ### The TABLE bank and the queue after the reports -/

theorem reportAll_bank_other {fs : List (ErrorCode × Nat)} {s : State} {b : BankId} (other : b ≠ .table) :
    (reportAll fs s).bank b = s.bank b := by
  unfold reportAll
  induction fs generalizing s with
  | nil => rfl
  | cons f fs ih => rw [List.foldl_cons, ih, report_bank, if_neg (fun h => other h.1.symm)]

theorem State.setBank_setBank (s : State) (b : BankId) (r r' : BankRec) :
    (s.setBank b r).setBank b r' = s.setBank b r' := by
  unfold State.setBank
  rw [Vector.set_set]

theorem State.setBank_self (s : State) (b : BankId) : s.setBank b (s.bank b) = s := by
  unfold State.setBank State.bank
  rw [show s.banks.set b.index s.banks[b.index] = s.banks from Vector.set_getElem_self ..]

/-- A bank that holds an uncorrected error counts the reports, each after the other. -/
theorem reportAll_of_uncorrected (fs : List (ErrorCode × Nat)) {s : State} (restoring : s.phase = .restoring)
    (valid : (s.bank .table).valid = true) (held : (s.bank .table).uncorrected = true) :
    reportAll fs s = s.setBank .table (BankRec.counted^[fs.length] (s.bank .table)) := by
  induction fs generalizing s with
  | nil => exact (s.setBank_self .table).symm
  | cons f fs ih =>
    have first : report .table f.1 (subjectOf f.2) s = s.setBank .table (s.bank .table).counted :=
      report_of_counting (State.bankTakes_of_restoring restoring .table) valid (.inl held)
    have bank : (s.setBank .table (s.bank .table).counted).bank .table = (s.bank .table).counted := by
      rw [State.setBank_bank, if_pos rfl]
    have rest := ih (s := s.setBank .table (s.bank .table).counted) restoring (by rw [bank]; exact valid)
      (by rw [bank]; exact held)
    rw [bank, State.setBank_setBank] at rest
    show reportAll fs (report .table f.1 (subjectOf f.2) s) = _
    rw [first, rest]
    rfl

theorem BankRec.counted_iterate {r : BankRec} (bound : r.count ≤ 65535) (n : Nat) :
    BankRec.counted^[n + 1] r = { r with overflow := true, count := min 65535 (r.count + (n + 1)) } := by
  induction n with
  | zero =>
    show r.counted = _
    unfold BankRec.counted
    have counts : (if r.count < 65535 then r.count + 1 else r.count) = min 65535 (r.count + (0 + 1)) := by
      split_ifs <;> omega
    rw [counts]
  | succ n ih =>
    rw [Function.iterate_succ_apply', ih]
    unfold BankRec.counted
    have counts : (if min 65535 (r.count + (n + 1)) < 65535 then min 65535 (r.count + (n + 1)) + 1
        else min 65535 (r.count + (n + 1))) = min 65535 (r.count + (n + 1 + 1)) := by
      split_ifs <;> omega
    rw [counts]

end Sys2Proof.Machine

/-! PROOF. The two starts (O57, O59): the start values, the tables restored, and the TABLE bank after the failures. -/

namespace Sys2Proof.Machine

/-! ### The TABLE bank from each of its three conditions -/

section Failures

variable {s : State} {code : ErrorCode} {subject : Nat} {fs : List (ErrorCode × Nat)}

/-- An empty TABLE bank captures the first failure and counts the others. -/
theorem reportAll_of_empty (restoring : s.phase = .restoring) (ofClass : code.errorClass = .uncorrected)
    (empty : (s.bank .table).valid = false) :
    reportAll ((code, subject) :: fs) s =
      takeChange (.fault .table) 0 2 (s.setBank .table
        (BankRec.counted^[fs.length] (.captured .uncorrected s.clock.uptime code (subjectOf subject)))) := by
  have first : report .table code (subjectOf subject) s = takeChange (.fault .table) 0 2
      (s.setBank .table (.captured .uncorrected s.clock.uptime code (subjectOf subject))) :=
    report_of_empty (State.bankTakes_of_restoring restoring .table) empty ofClass
  have bank : (report .table code (subjectOf subject) s).bank .table =
      .captured .uncorrected s.clock.uptime code (subjectOf subject) := by
    rw [first]
    exact (State.setBank_bank ..).trans (if_pos rfl)
  have rest := reportAll_of_uncorrected fs (s := report .table code (subjectOf subject) s)
    (by rw [report_eq]; exact restoring) (by rw [bank]; rfl) (by rw [bank]; rfl)
  show reportAll fs (report .table code (subjectOf subject) s) = _
  rw [rest, bank, first]
  exact congrArg (takeChange _ 0 2) (State.setBank_setBank s .table _ _)

/-- A TABLE bank that holds a corrected error has it replaced by the first failure, and counts the others. -/
theorem reportAll_of_corrected (restoring : s.phase = .restoring) (ofClass : code.errorClass = .uncorrected)
    (valid : (s.bank .table).valid = true) (held : (s.bank .table).uncorrected = false) :
    reportAll ((code, subject) :: fs) s =
      takeChange (.fault .table) 1 2 (s.setBank .table
        (BankRec.counted^[fs.length] { (s.bank .table).counted with
          uncorrected := true, code := some code, subject := subjectOf subject, second := s.clock.uptime })) := by
  have first : report .table code (subjectOf subject) s = takeChange (.fault .table) 1 2
      (s.setBank .table { (s.bank .table).counted with
          uncorrected := true, code := some code, subject := subjectOf subject, second := s.clock.uptime }) :=
    report_of_replacing (State.bankTakes_of_restoring restoring .table) valid held ofClass
  have bank : (report .table code (subjectOf subject) s).bank .table = { (s.bank .table).counted with
      uncorrected := true, code := some code, subject := subjectOf subject, second := s.clock.uptime } := by
    rw [first]
    exact (State.setBank_bank ..).trans (if_pos rfl)
  have rest := reportAll_of_uncorrected fs (s := report .table code (subjectOf subject) s)
    (by rw [report_eq]; exact restoring) (by rw [bank]; exact valid) (by rw [bank])
  show reportAll fs (report .table code (subjectOf subject) s) = _
  rw [rest, bank, first]
  exact congrArg (takeChange _ 1 2) (State.setBank_setBank s .table _ _)

end Failures

/-! ### A start from its start values -/

section Start

variable {s : State}

theorem restoreTables_banks_queue (s : State) :
    (restoreTables s).banks = (reportAll s.store.failed s).banks ∧
      (restoreTables s).queue = (reportAll s.store.failed s).queue := by
  obtain ⟨e, cs, xs, h⟩ := restoreTables_eq s
  rw [h]
  exact ⟨rfl, rfl⟩

theorem restoreTables_bank (s : State) (b : BankId) : (restoreTables s).bank b = (reportAll s.store.failed s).bank b :=
  congrArg (fun banks => banks[b.index]) (restoreTables_banks_queue s).1

theorem restoreTables_bank_other (s : State) {b : BankId} (other : b ≠ .table) :
    (restoreTables s).bank b = s.bank b := (restoreTables_bank s b).trans (reportAll_bank_other other)

/-- A store whose images all read back reports nothing. -/
theorem restoreTables_of_none_failed (none : s.store.failures = 0) :
    (restoreTables s).banks = s.banks ∧ (restoreTables s).queue = s.queue := by
  have nil : s.store.failed = [] := List.eq_nil_of_length_eq_zero (s.store.failed_length.trans none)
  obtain ⟨banks, queue⟩ := restoreTables_banks_queue s
  rw [nil] at banks queue
  exact ⟨banks, queue⟩

/-- The FAULT record of a start. -/
def startFault (fromRank : Nat) : EventRec :=
  { key := .fault .table, firstSecond := 0, lastSecond := 0, fromRank := fromRank, toRank := 2, peak := 2, changes := 1
    priority := 3 }

/-- The bank record that a start leaves where it captured its first failure. -/
def startHolds (code : ErrorCode) (subject : Nat) (overflow : Bool) (count : Nat) : BankRec :=
  { valid := true, uncorrected := true, overflow := overflow, code := some code, subject := BitVec.ofNat 8 subject
    second := 0, count := count }

theorem captured_counted_iterate (code : ErrorCode) (subject n : Nat) (few : n ≤ 65534) :
    BankRec.counted^[n] (.captured .uncorrected 0 code (subjectOf subject)) =
      startHolds code subject (decide (2 ≤ n + 1)) (n + 1) := by
  cases n with
  | zero => rfl
  | succ n =>
    rw [BankRec.counted_iterate (by show 1 ≤ 65535; omega)]
    have counts : min 65535 (1 + (n + 1)) = n + 1 + 1 := by omega
    have overflow : decide (2 ≤ n + 1 + 1) = true := by simp
    unfold startHolds
    rw [overflow, ← counts]
    rfl

theorem replaced_counted_iterate {r : BankRec} (valid : r.valid = true) (bound : r.count ≤ 65535) (code : ErrorCode)
    (subject n : Nat) :
    BankRec.counted^[n] { r.counted with
        uncorrected := true, code := some code, subject := subjectOf subject, second := 0 } =
      startHolds code subject true (min 65535 (r.count + (n + 1))) := by
  have first : { r.counted with uncorrected := true, code := some code, subject := subjectOf subject, second := 0 } =
      startHolds code subject true (min 65535 (r.count + 1)) := by
    have once : r.counted = { r with overflow := true, count := min 65535 (r.count + 1) } :=
      BankRec.counted_iterate bound 0
    rw [once]
    unfold startHolds
    rw [valid]
    rfl
  rw [first]
  cases n with
  | zero => rfl
  | succ n =>
    rw [BankRec.counted_iterate (Nat.min_le_left ..)]
    have counts : min 65535 (min 65535 (r.count + 1) + (n + 1)) = min 65535 (r.count + (n + 1 + 1)) := by omega
    exact congrArg (startHolds code subject true) counts

/-- What the failures of a store leave at a start with the uptime at 0 and an empty event queue, by what the TABLE bank
held (R141, R142, R179). -/
theorem restoreTables_of_failed (restoring : s.phase = .restoring) (uptime : s.clock.uptime = 0)
    (queue : s.queue.records = []) (fails : s.store.failures ≠ 0) :
    ∃ (code : ErrorCode) (subject : Nat), s.store.FirstFailure code subject ∧
      ((s.bank .table).valid = false →
        (restoreTables s).bank .table = startHolds code subject (decide (2 ≤ s.store.failures)) s.store.failures ∧
        (restoreTables s).queue.records = [startFault 0]) ∧
      ((s.bank .table).valid = true → (s.bank .table).uncorrected = true →
        ((s.bank .table).count ≤ 65535 → (restoreTables s).bank .table =
          { s.bank .table with overflow := true, count := min 65535 ((s.bank .table).count + s.store.failures) }) ∧
        (restoreTables s).queue.records = []) ∧
      ((s.bank .table).valid = true → (s.bank .table).uncorrected = false →
        ((s.bank .table).count ≤ 65535 → (restoreTables s).bank .table =
          startHolds code subject true (min 65535 ((s.bank .table).count + s.store.failures))) ∧
        (restoreTables s).queue.records = [startFault 1]) := by
  obtain ⟨code, subject, head, isFirst⟩ := Store.failed_head fails
  obtain ⟨rest, list⟩ := List.head?_eq_some_iff.1 head
  have ofClass : code.errorClass = .uncorrected := 
    Store.failed_uncorrected (st := s.store) (f := (code, subject)) (list ▸ List.mem_cons_self)
  have length : s.store.failures = rest.length + 1 := by rw [← Store.failed_length, list]; rfl
  have few := s.store.failures_le
  have bank := restoreTables_bank s .table
  have records := congrArg EventQueue.records (restoreTables_banks_queue s).2
  rw [list] at bank records
  rw [bank, records]
  refine ⟨code, subject, isFirst, fun empty => ?_, fun valid held => ?_, fun valid held => ?_⟩
  · rw [reportAll_of_empty restoring ofClass empty, uptime, captured_counted_iterate _ _ _ (by omega), length]
    refine ⟨(State.setBank_bank ..).trans (if_pos rfl), ?_⟩
    show takeInto s.clock.uptime _ 0 2 s.queue.records = _
    rw [queue, uptime]
    rfl
  · rw [reportAll_of_uncorrected _ restoring valid held]
    refine ⟨fun bound => ?_, queue⟩
    rw [length, ← BankRec.counted_iterate bound]
    exact (State.setBank_bank ..).trans (if_pos rfl)
  · rw [reportAll_of_corrected restoring ofClass valid held]
    refine ⟨fun bound => ?_, ?_⟩
    · refine ((State.setBank_bank ..).trans (if_pos rfl)).trans ?_
      rw [length, uptime]
      exact replaced_counted_iterate valid bound code subject rest.length
    · show takeInto s.clock.uptime _ 1 2 s.queue.records = _
      rw [queue, uptime]
      rfl

/-- What a restore leaves of the state it reads into, the tables, the banks and the queue's records apart. -/
theorem restoreTables_around (s : State) :
    (restoreTables s).phase = s.phase ∧ (restoreTables s).stationAddress = s.stationAddress ∧
    (restoreTables s).store = s.store ∧ (restoreTables s).write = s.write ∧ (restoreTables s).pending = s.pending ∧
    (restoreTables s).channels = s.channels ∧ (restoreTables s).xfs = s.xfs ∧
    (restoreTables s).memberMap = s.memberMap ∧ (restoreTables s).station = s.station ∧
    (restoreTables s).alarmOut = s.alarmOut ∧ (restoreTables s).stormOut = s.stormOut ∧
    (restoreTables s).recorder = s.recorder ∧ (restoreTables s).frames = s.frames ∧
    (restoreTables s).clock = s.clock ∧ (restoreTables s).restartArmed = s.restartArmed := by
  have h := restoreTables_restoresTo s
  generalize restoreTables s = t at h
  unfold State.RestoresTo at h
  rw [h]
  exact ⟨rfl, rfl, rfl, rfl, rfl, rfl, rfl, rfl, rfl, rfl, rfl, rfl, rfl, rfl, rfl⟩

theorem reportAll_reportFloor (fs : List (ErrorCode × Nat)) (s : State) :
    (reportAll fs s).queue.reportFloor = s.queue.reportFloor := by
  unfold reportAll
  refine KeptByCommands.foldl (P := fun u => u.queue.reportFloor = s.queue.reportFloor) _ (fun u f hu => ?_) _ rfl
  refine Eq.trans ?_ hu
  unfold report replaceBank
  split
  · split <;> rfl
  · rfl

theorem restoreTables_reportFloor (s : State) : (restoreTables s).queue.reportFloor = s.queue.reportFloor := by
  rw [(restoreTables_banks_queue s).2]
  exact reportAll_reportFloor ..

end Start

/-! ### The cold start -/

theorem tearWrite_pending (s : State) : (tearWrite s).pending = s.pending := by
  unfold tearWrite
  split <;> rfl

/-- The moment of a cold start at which the restore begins to read. -/
def coldValues (straps : BitVec 6) (s : State) : State :=
  { discardWorking .restoring (tearWrite s) with stationAddress := addressOfStraps straps }

theorem exec_coldStart (straps : BitVec 6) (s : State) :
    exec (.coldStart straps) s = .next (restoreTables (coldValues straps s)) := rfl

theorem coldValues_bank (straps : BitVec 6) (s : State) (b : BankId) : (coldValues straps s).bank b = BankRec.empty :=
  reset_bank b

/-- The image of a write in progress is torn and no other changes (R178). -/
theorem coldValues_store (straps : BitVec 6) (s : State) : (coldValues straps s).store = (tearWrite s).store := rfl

theorem addressOfStraps_toNat (straps : BitVec 6) : (addressOfStraps straps).toNat = 128 + straps.toNat := by
  unfold addressOfStraps
  have bound := straps.isLt
  have base : (0x80 : Byte).toNat = 128 := rfl
  rw [BitVec.toNat_add, BitVec.toNat_setWidth, base]
  omega

/-- Settles O57: the start values are those of the reset state; the restore adds the tables and, in the empty TABLE
bank, the failures. -/
theorem coldStartValues : Obligations.ColdStartValues := by
  intro s straps
  refine ⟨_, exec_coldStart straps s, ?_⟩
  obtain ⟨phase, address, store, write, pending, channels, xfs, map, station, alarm, storm, recorder, frames, clock,
    armed⟩ := restoreTables_around (coldValues straps s)
  have restored := restoreTables_restored (coldValues straps s)
  have reportFloor := restoreTables_reportFloor (coldValues straps s)
  have other := fun b => restoreTables_bank_other (coldValues straps s) (b := b)
  have clean := restoreTables_of_none_failed (s := coldValues straps s)
  have failed := restoreTables_of_failed (s := coldValues straps s) rfl rfl rfl
  have storeIs := store.trans (coldValues_store straps s)
  have empty : (coldValues straps s).bank .table = BankRec.empty := coldValues_bank ..
  have bankOf : ∀ t : State, t.banks = (coldValues straps s).banks → t.bank .table = BankRec.empty := fun t h =>
    (congrArg (fun banks => banks[BankId.table.index]) h).trans empty
  generalize restoreTables (coldValues straps s) = t at *
  rw [coldValues_store] at clean failed
  rw [← storeIs] at clean failed
  rw [empty] at failed
  have memberMap : ∀ c : Channel, t.memberMap[c] = none := fun c => by
    rw [map]
    simp [coldValues, discardWorking, State.reset]
  have cleanBank : t.store.failures = 0 → t.bank .table = BankRec.empty := fun none => bankOf t (clean none).1
  refine ⟨phase, ?_, storeIs, write, restored, memberMap, pending.trans (tearWrite_pending s), fun c => ?_,
    fun x => ?_, station, alarm, storm, recorder, frames, congrArg Clock.uptime clock, armed, reportFloor,
    fun b hb => (other b hb).trans ((coldValues_bank straps s b).trans (reset_bank b).symm), ?_,
    fun none => ⟨(cleanBank none).trans (reset_bank _).symm, congrArg EventQueue.records (clean none).2⟩, fun fails => ?_,
    fun idle => storeIs.trans (tearWrite_store.1 idle), fun w writing => storeIs.trans (tearWrite_store.2 w writing),
    rfl, rfl, rfl⟩
  · rw [address]
    exact addressOfStraps_toNat straps
  · exact congrArg (fun cs : Vector ChannelRec 40 => cs[c]) channels
  · exact congrArg (fun xs : Vector XfRec 16 => xs[x]) xfs
  · by_cases fails : t.store.failures = 0
    · rw [cleanBank fails, fails]
      rfl
    · obtain ⟨code, subject, -, captures, -⟩ := failed fails
      rw [(captures rfl).1]
      rfl
  · obtain ⟨code, subject, isFirst, captures, -⟩ := failed fails
    obtain ⟨bank, records⟩ := captures rfl
    refine ⟨?_, ?_, ?_, records, code, subject, isFirst, bank⟩
    · rw [bank]
      rfl
    · rw [bank]
      rfl
    · rw [bank]
      exact decide_eq_true_iff

/-! ### The warm restart -/

/-- Settles O59: the start values keep the address, the banks, Θ and T and port A's frame; the restore adds the tables
and, in the TABLE bank as it was kept, the failures. -/
theorem warmRestartKeepsBanksAndHeat : Obligations.WarmRestartKeepsBanksAndHeat := by
  intro s frame sending armed
  have row : exec .portBTransmitCompletion s = .next (restoreTables (warmValues s)) :=
    congrArg Host.Outcome.next ((portBCompletes_of_response sending responseSent).trans (responseSent_of_armed armed))
  refine ⟨_, row, ?_⟩
  obtain ⟨phase, address, store, write, pending, channels, xfs, map, station, alarm, storm, recorder, frames, clock,
    disarmed⟩ := restoreTables_around (warmValues s)
  have restored := restoreTables_restored (warmValues s)
  have reportFloor := restoreTables_reportFloor (warmValues s)
  have other := fun b => restoreTables_bank_other (warmValues s) (b := b)
  have clean := restoreTables_of_none_failed (s := warmValues s)
  have failed := restoreTables_of_failed (s := warmValues s) rfl rfl rfl
  generalize restoreTables (warmValues s) = t at *
  refine ⟨phase, address, store, write, pending, restored, fun c => ⟨?_, ?_⟩, fun x => ?_, station, alarm, storm, recorder, frames, congrArg Clock.uptime clock, disarmed, reportFloor, ?_, other,
    fun none => ⟨(clean none).1, congrArg EventQueue.records (clean none).2⟩, fun fails => ?_⟩
  · refine (congrArg (fun cs : Vector ChannelRec 40 => cs[c]) channels).trans ?_
    simp [warmValues]
  · rw [map]
    simp [warmValues]
  · exact (congrArg (fun xs : Vector XfRec 16 => xs[x]) xfs).trans (warmValues_xf s x)
  · intro r hr
    by_cases fails : s.store.failures = 0
    · have empty : t.queue.records = [] := congrArg EventQueue.records (clean fails).2
      rw [empty] at hr
      exact absurd hr List.not_mem_nil
    · obtain ⟨code, subject, -, empty, uncorrected, corrected⟩ := failed fails
      cases valid : (s.bank .table).valid with
      | false =>
        rw [(empty valid).2] at hr
        obtain rfl := List.mem_singleton.1 hr
        rfl
      | true =>
        cases held : (s.bank .table).uncorrected with
        | false =>
          rw [(corrected valid held).2] at hr
          obtain rfl := List.mem_singleton.1 hr
          rfl
        | true =>
          rw [(uncorrected valid held).2] at hr
          exact absurd hr List.not_mem_nil
  · obtain ⟨code, subject, isFirst, empty, uncorrected, corrected⟩ := failed fails
    exact ⟨code, subject, isFirst, empty,
      fun valid bound held => ⟨(uncorrected valid held).1 bound, (uncorrected valid held).2⟩,
      fun valid bound held => ⟨(corrected valid held).1 bound, (corrected valid held).2⟩⟩

end Sys2Proof.Machine

/-! PROOF. A completed write is what the next cold start restores, and a torn one is the factory default (O56). -/

namespace Sys2Proof.Machine

/-- The blocks leave the store and its write as they are. -/
theorem storeWrite_keptByBlocks (st : Store) : KeptByBlocks (fun u => u.store = st ∧ u.write = none) where
  setChannel _ _ _ := id
  setXf _ _ _ _ := id
  alarm _ _ _ := id
  setStation _ _ _ := id
  enter _ _ := id
  write _ _ := id
  takeChange _ _ _ _ _ := id
  report u b c x _ same := by rw [report_eq]; exact same

/-- A write's completion leaves its image in the store and no write in progress (R177). -/
theorem writeCompletes_store {s : State} {w : StoreWrite} (writing : s.write = some w) :
    (writeCompletes s).store = w.replaceImage w.image s.store ∧ (writeCompletes s).write = none := by
  have taken := (storeWrite_keptByBlocks (w.replaceImage w.image s.store)).takeWritten (fun _ _ => id)
    (fun _ _ _ => id) (fun _ _ _ => id) (fun _ _ => id) w (s := finishWrite w s) ⟨rfl, rfl⟩
  unfold writeCompletes
  rw [writing]
  show (answerWrite w (takeWritten w (finishWrite w s))).store = _ ∧
    (answerWrite w (takeWritten w (finishWrite w s))).write = none
  generalize takeWritten w (finishWrite w s) = u at taken
  unfold answerWrite
  split <;> exact taken

/-- A cold start with no write in progress restores the store as it stands. -/
theorem coldStart_restored {straps : BitVec 6} {s u : State} (idle : s.write = none)
    (hu : exec (.coldStart straps) s = .next u) : u.Restored ∧ u.store = s.store := by
  obtain rfl : restoreTables (coldValues straps s) = u := Host.Outcome.next.inj hu
  obtain ⟨-, -, store, -⟩ := restoreTables_around (coldValues straps s)
  rw [coldValues_store, tearWrite_of_none idle] at store
  exact ⟨restoreTables_restored _, store⟩

/-- The tables after a completed write and a cold start are those of the store with the write's image. -/
theorem coldStart_after_write {straps : BitVec 6} {s t u : State} {w : StoreWrite} (writing : s.write = some w)
    (ht : exec .storeWriteCompletion s = .next t) (hu : exec (.coldStart straps) t = .next u) :
    u.Restored ∧ u.store = w.replaceImage w.image s.store := by
  obtain rfl : writeCompletes s = t := Host.Outcome.next.inj ht
  obtain ⟨store, write⟩ := writeCompletes_store writing
  obtain ⟨restored, same⟩ := coldStart_restored write hu
  exact ⟨restored, same.trans store⟩

/-- The tables after a loss of power that tears a write, and a cold start. -/
theorem coldStart_after_loss {straps : BitVec 6} {s t u : State} {w : StoreWrite} (writing : s.write = some w)
    (ht : exec .powerLoss s = .next t) (hu : exec (.coldStart straps) t = .next u) :
    u.Restored ∧ u.store = w.replaceImage .torn s.store := by
  obtain rfl : discardWorking .powerAbsent (tearWrite s) = t := Host.Outcome.next.inj ht
  obtain ⟨restored, same⟩ := coldStart_restored rfl hu
  rw [tearWrite_of_some writing] at same
  exact ⟨restored, same⟩

section Restored

variable {u : State} (restored : u.Restored)
include restored

theorem State.Restored.setup_of_image {i : Image} {e : Option Setup} {st : Store} (store : u.store = st)
    (image : st.setup = i) (reads : setupOfImage i = e) : u.setup = e.getD Setup.factory := by
  rw [restored.1, store, image, reads]

theorem State.Restored.channel_of_image {i : Image} {e : Option ChannelEntry} {st : Store} {c : Channel}
    (store : u.store = st) (image : st.channels[c] = i) (reads : channelOfImage i = e) :
    u.channelEntry c = e.getD ChannelEntry.factory := by
  rw [restored.2.2 c, store, image, reads]

theorem State.Restored.xf_of_image {i : Image} {e : Option XfEntry} {st : Store} {x : Xf}
    (store : u.store = st) (image : st.xfs[x] = i) (reads : xfOfImage i = e) :
    u.xfEntry x = e.getD XfEntry.factory := by
  rw [restored.2.1 x, store, image, reads]

end Restored

/-- Where a restore finds a failed image the cold start leaves the TABLE bank VALID. -/
theorem coldStart_table_valid {straps : BitVec 6} {s u : State} (hu : exec (.coldStart straps) s = .next u)
    (fails : u.store.failures ≠ 0) : (u.bank .table).valid = true := by
  obtain ⟨v, hv, -, -, -, -, -, -, -, -, -, -, -, -, -, -, -, -, -, -, -, -, failed, -⟩ := coldStartValues s straps
  obtain rfl : v = u := Host.Outcome.next.inj (hv.symm.trans hu)
  exact (failed fails).1

theorem torn_failures (w : StoreWrite) (st : Store) : (w.replaceImage .torn st).failures ≠ 0 := by
  have xf : ∀ x : Xf, 0 < (List.finRange 16).countP fun t => (xfOfImage (st.xfs.set x .torn)[t]).isNone := fun x =>
    List.countP_pos_iff.2 ⟨x, List.mem_finRange x, by simp [xfOfImage, openImage]⟩
  have channel : ∀ c : Channel, 0 < (List.finRange 40).countP fun t => (channelOfImage (st.channels.set c .torn)[t]).isNone :=
    fun c => List.countP_pos_iff.2 ⟨c, List.mem_finRange c, by simp [channelOfImage, openImage]⟩
  unfold Store.failures
  cases w with
  | setup _ | guardSpan _ =>
    show 1 + _ + _ ≠ 0
    omega
  | channelEntry c _ | channelService c _ =>
    have := channel c
    show _ + _ + (List.finRange 40).countP (fun t => (channelOfImage (st.channels.set c .torn)[t]).isNone) ≠ 0
    omega
  | xfEntry x _ | xfService x _ =>
    have := xf x
    show _ + (List.finRange 16).countP (fun t => (xfOfImage (st.xfs.set x .torn)[t]).isNone) + _ ≠ 0
    omega

/-- Settles O56: the cold start reads the image that the write left, or the torn one. -/
theorem writesSurviveOrAreTorn : Obligations.WritesSurviveOrAreTorn := by
  intro s straps
  have channelImage : ∀ (c : Channel) (i : Image), (s.store.channels.set c i)[c] = i := fun c i => by simp
  have xfImage : ∀ (x : Xf) (i : Image), (s.store.xfs.set x i)[x] = i := fun x i => by simp
  refine ⟨fun e writing range t u ht hu => ?_, fun c e writing range t u ht hu => ?_,
    fun x e writing range t u ht hu => ?_, fun e writing range t u ht hu => ?_, fun c e writing range t u ht hu => ?_,
    fun x e writing range t u ht hu => ?_, fun w writing t u ht hu => ?_⟩
  · obtain ⟨restored, store⟩ := coldStart_after_write writing ht hu
    exact restored.setup_of_image store rfl (setupOfImage_sealed range)
  · obtain ⟨restored, store⟩ := coldStart_after_write writing ht hu
    exact restored.channel_of_image store (channelImage c _) (channelOfImage_sealed range)
  · obtain ⟨restored, store⟩ := coldStart_after_write writing ht hu
    exact restored.xf_of_image store (xfImage x _) (xfOfImage_sealed range)
  · obtain ⟨restored, store⟩ := coldStart_after_write writing ht hu
    exact restored.setup_of_image store rfl (setupOfImage_sealed range)
  · obtain ⟨restored, store⟩ := coldStart_after_write writing ht hu
    exact restored.channel_of_image store (channelImage c _) (channelOfImage_sealed range)
  · obtain ⟨restored, store⟩ := coldStart_after_write writing ht hu
    exact restored.xf_of_image store (xfImage x _) (xfOfImage_sealed range)
  · obtain ⟨restored, store⟩ := coldStart_after_loss writing ht hu
    refine ⟨coldStart_table_valid hu (store ▸ torn_failures w s.store), ?_⟩
    cases w with
    | setup _ => exact restored.setup_of_image (e := none) store rfl rfl
    | guardSpan _ => exact restored.setup_of_image (e := none) store rfl rfl
    | channelEntry c _ => exact restored.channel_of_image (e := none) store (channelImage c _) rfl
    | channelService c _ => exact restored.channel_of_image (e := none) store (channelImage c _) rfl
    | xfEntry x _ => exact restored.xf_of_image (e := none) store (xfImage x _) rfl
    | xfService x _ => exact restored.xf_of_image (e := none) store (xfImage x _) rfl

end Sys2Proof.Machine

/-! PROOF. A channel's per-second step and its clearing (O37), over the rules of one channel's record. -/

namespace Sys2Proof.Machine

/-! ### Updates of one channel's record -/

theorem State.mapChannel_setChannel (s : State) (c : Channel) (r : ChannelRec) (f : ChannelRec → ChannelRec) :
    (s.setChannel c r).mapChannel c f = s.setChannel c (f r) := by
  rw [State.mapChannel_eq, State.setChannel_channel_same, State.setChannel_setChannel]

theorem replaceBank_setChannel (b : BankId) (r : BankRec) (s : State) (c : Channel) (v : ChannelRec) :
    replaceBank b r (s.setChannel c v) = (replaceBank b r s).setChannel c v := by
  unfold replaceBank
  rw [apply_ite (fun u => State.setChannel u c v)]
  rfl

theorem report_setChannel (b : BankId) (code : ErrorCode) (x : Byte) (s : State) (c : Channel) (v : ChannelRec) :
    report b code x (s.setChannel c v) = (report b code x s).setChannel c v := by
  unfold report
  rw [apply_ite (fun u => State.setChannel u c v), ← replaceBank_setChannel]
  rfl

@[simp] theorem report_channel (b : BankId) (code : ErrorCode) (x : Byte) (s : State) (c : Channel) :
    (report b code x s).channel c = s.channel c := by
  rw [report_eq]
  rfl

theorem ChannelKind.isField_iff (k : ChannelKind) : k.isField = true ↔ k ≠ .neutral := by
  cases k <;> decide

/-! ### The per-second step (R92 to R95) -/

/-- The state with channel `c`'s per-second fields replaced. -/
def State.withSecond (s : State) (c : Channel) (v : FieldSecond) : State :=
  s.setChannel c { s.channel c with second := v }

theorem fieldOutput_of_not {c : Channel} {s : State}
    (idle : (s.channelEntry c).kind = .neutral ∨ ¬((s.channel c).state = .valid ∨ (s.channel c).state = .suspect)) :
    fieldOutput c s = s := by
  refine if_neg fun adds => ?_
  rw [Bool.and_eq_true, ChannelKind.isField_iff, ChannelState.live_iff] at adds
  exact idle.elim adds.1 (fun h => h adds.2)

section Adds

variable {c : Channel} {s : State}

theorem fieldOutput_of_adds (field : (s.channelEntry c).kind ≠ .neutral)
    (live : (s.channel c).state = .valid ∨ (s.channel c).state = .suspect) : fieldOutput c s = perSecondAdd c s := by
  refine if_pos ?_
  rw [Bool.and_eq_true, ChannelKind.isField_iff, ChannelState.live_iff]
  exact ⟨field, live⟩

theorem perSecondAdd_of_short (short : (s.channel c).second.count + 1 ≠ s.setup.freq) :
    perSecondAdd c s = s.withSecond c
      { (s.channel c).second with
        sum := (s.channel c).second.sum + (s.channel c).output, count := (s.channel c).second.count + 1 } :=
  if_neg short

theorem perSecondAdd_of_full (full : (s.channel c).second.count + 1 = s.setup.freq) :
    perSecondAdd c s = fieldBoundary c ((s.channel c).second.sum + (s.channel c).output) s :=
  if_pos full

@[simp] theorem report_channelEntry (b : BankId) (code : ErrorCode) (x : Byte) (s : State) (c : Channel) :
    (report b code x s).channelEntry c = s.channelEntry c := by
  rw [report_eq]
  rfl

theorem report_withSecond (b : BankId) (code : ErrorCode) (x : Byte) (s : State) (c : Channel) (v : FieldSecond) :
    report b code x (s.withSecond c v) = (report b code x s).withSecond c v := by
  unfold State.withSecond
  rw [report_setChannel, report_channel]

theorem formRate_withSecond (c : Channel) (previous latest : Int) (s : State) (v : FieldSecond) :
    formRate c previous latest (s.withSecond c v) =
      let raw := latest - previous
      let rate := clampTo (-32767) 32767 raw
      let u := s.withSecond c { v with latestRate := some rate }
      rateNotice c (s.channelEntry c).kind rate
        (if raw = rate then u else report .compute .rateClamp (subjectOf c.val) u) := by
  unfold formRate
  dsimp only
  generalize clampTo (-32767) 32767 (latest - previous) = rate
  have put : ∀ u : State, (u.withSecond c v).mapChannel c
      (fun q => { q with second := { q.second with latestRate := some rate } }) =
      u.withSecond c { v with latestRate := some rate } := fun u => State.mapChannel_setChannel ..
  by_cases same : rate = latest - previous
  · rw [if_pos same, if_pos same.symm, put]
    rfl
  · rw [if_neg same, if_neg (Ne.symm same), report_withSecond, put, report_withSecond]
    unfold State.kindOf
    rw [← report_withSecond, report_channelEntry]
    rfl

theorem fieldBoundary_of_none (sum : Int) (before : (s.channel c).second.latestMean = none) :
    fieldBoundary c sum s = s.withSecond c
      { (s.channel c).second with
        sum := 0, count := 0, previousMean := none, latestMean := some (sum / (s.setup.freq : Int)) } := by
  unfold fieldBoundary
  rw [before]
  rfl

theorem fieldBoundary_of_some (sum : Int) {previous : Int} (before : (s.channel c).second.latestMean = some previous) :
    fieldBoundary c sum s = formRate c previous (sum / (s.setup.freq : Int)) (s.withSecond c
      { (s.channel c).second with
        sum := 0, count := 0, previousMean := some previous, latestMean := some (sum / (s.setup.freq : Int)) }) := by
  unfold fieldBoundary
  rw [before]
  rfl

end Adds

theorem clearSecond_of_neutral {c : Channel} {s : State} (neutral : (s.channelEntry c).kind = .neutral) :
    clearSecond c s = s := by
  refine if_neg fun field => ?_
  exact (ChannelKind.isField_iff _).1 field neutral

theorem clearSecond_of_field {c : Channel} {s : State} (field : (s.channelEntry c).kind ≠ .neutral) :
    clearSecond c s = withdrawalNotice c (s.withSecond c FieldSecond.cleared) :=
  if_pos ((ChannelKind.isField_iff _).2 field)

/-- Settles O37: a second is closed at the F-th output, and two means in a row give the rate. -/
theorem fieldSecondsAndRates : Obligations.FieldSecondsAndRates := by
  intro s c
  dsimp only
  refine ⟨fieldOutput_of_not, fun field live short => ?_, fun field live full before => ?_,
    fun previous field live full before => ?_, clearSecond_of_neutral, fun field => ?_⟩
  · rw [fieldOutput_of_adds field live, perSecondAdd_of_short short]
    rfl
  · rw [fieldOutput_of_adds field live, perSecondAdd_of_full full, fieldBoundary_of_none _ before]
    rfl
  · rw [fieldOutput_of_adds field live, perSecondAdd_of_full full, fieldBoundary_of_some _ before, formRate_withSecond]
    rfl
  · rw [clearSecond_of_field field]
    rfl

end Sys2Proof.Machine

/-! PROOF. The two timer expiries of a channel (O38). What a channel's work touches is one relation, `WorksOnChannel`,
and that the evaluator leaves the axis rates and the INPUT bank to conditioning is another, `SameInputs`. -/

namespace Sys2Proof.Machine

/-! ### What work on one channel touches (R22, R24) -/

/-- From `s` to `t` only channel `c`, the transformer that the member map gives it, the station, the outputs, the queue,
the recorder and the banks can change. -/
def WorksOnChannel (c : Channel) (s t : State) : Prop :=
  (∀ o : Channel, o ≠ c → t.channel o = s.channel o) ∧
  (∀ x : Xf, (∀ j, s.memberMap[c] ≠ some (x, j)) → t.xf x = s.xf x) ∧ s.SameAround t

namespace WorksOnChannel

variable {c : Channel} {s t u : State}

theorem refl (s : State) : WorksOnChannel c s s := ⟨fun _ _ => rfl, fun _ _ => rfl, .refl s⟩

theorem trans (h : WorksOnChannel c s t) (h' : WorksOnChannel c t u) : WorksOnChannel c s u := by
  obtain ⟨channels, xfs, around⟩ := h
  obtain ⟨channels', xfs', around'⟩ := h'
  have map : t.memberMap = s.memberMap := around.2.2.2.2.2.1
  exact ⟨fun o ho => (channels' o ho).trans (channels o ho),
    fun x hx => (xfs' x (fun j => by rw [map]; exact hx j)).trans (xfs x hx), around.trans around'⟩

/-- Work that leaves every channel and every transformer as it was. -/
theorem ofBeside (channels : t.channels = s.channels) (xfs : t.xfs = s.xfs) (around : s.SameAround t) :
    WorksOnChannel c s t :=
  ⟨fun o _ => congrArg (fun v : Vector ChannelRec 40 => v[o]) channels,
    fun x _ => congrArg (fun v : Vector XfRec 16 => v[x]) xfs, around⟩

theorem setChannel (s : State) (r : ChannelRec) : WorksOnChannel c s (s.setChannel c r) :=
  ⟨fun o ho => s.setChannel_channel_other c o r ho, fun _ _ => rfl, .refl s⟩

theorem takeChange (key : EventKey) (f t : Nat) (s : State) : WorksOnChannel c s (takeChange key f t s) :=
  ofBeside rfl rfl (.refl s)

theorem report (b : BankId) (code : ErrorCode) (x : Byte) (s : State) : WorksOnChannel c s (report b code x s) := by
  rw [report_eq]
  exact ofBeside rfl rfl (.refl s)

theorem rateNotice (k : ChannelKind) (r : Int) (s : State) : WorksOnChannel c s (rateNotice c k r s) := by
  rw [rateNotice_eq]
  exact ofBeside rfl rfl (.refl s)

theorem withdrawalNotice (s : State) : WorksOnChannel c s (withdrawalNotice c s) := ofBeside rfl rfl (.refl s)

/-- Work on the transformer that the member map gives the channel. -/
theorem ofWorksOn {x : Xf} {j : Slot} (place : s.memberMap[c] = some (x, j)) (works : WorksOn x s t) :
    WorksOnChannel c s t := by
  obtain ⟨channels, xfs, around⟩ := works
  refine ⟨fun o _ => congrArg (fun v : Vector ChannelRec 40 => v[o]) channels, fun o ho => xfs o ?_, around⟩
  rintro rfl
  exact ho j place

theorem channelNotice (s : State) : WorksOnChannel c s (channelNotice c s) := by
  obtain ⟨none, some⟩ := channelNotice_worksOn c s
  cases place : s.memberMap[c] with
  | none => rw [none place]; exact refl s
  | some at' => exact ofWorksOn place (some at'.1 at'.2 place)

theorem blockArrival (n : Cycle) (s : State) : WorksOnChannel c s (blockArrival c n s) := by
  obtain ⟨none, some⟩ := blockArrival_worksOn c n s
  cases place : s.memberMap[c] with
  | none => rw [none place]; exact refl s
  | some at' => exact ofWorksOn place (some at'.1 at'.2 place)

theorem clearSecond (s : State) : WorksOnChannel c s (clearSecond c s) := by
  unfold Machine.clearSecond
  split
  · exact (setChannel s _).trans (withdrawalNotice _)
  · exact refl s

end WorksOnChannel

@[simp] theorem channelNotice_channel (c o : Channel) (s : State) : (channelNotice c s).channel o = s.channel o := by
  obtain ⟨none, some⟩ := channelNotice_worksOn c s
  cases place : s.memberMap[c] with
  | none => rw [none place]
  | some at' => exact congrArg (fun v : Vector ChannelRec 40 => v[o]) (some at'.1 at'.2 place).1

@[simp] theorem blockArrival_channel (c o : Channel) (n : Cycle) (s : State) :
    (blockArrival c n s).channel o = s.channel o := by
  obtain ⟨none, some⟩ := blockArrival_worksOn c n s
  cases place : s.memberMap[c] with
  | none => rw [none place]
  | some at' => exact congrArg (fun v : Vector ChannelRec 40 => v[o]) (some at'.1 at'.2 place).1

/-! ### What the evaluator leaves to conditioning -/

/-- The axis rates and the INPUT bank are those of `s`. -/
def State.SameInputs (s t : State) : Prop :=
  t.station.xRate = s.station.xRate ∧ t.station.yRate = s.station.yRate ∧ t.bank .input = s.bank .input

namespace State.SameInputs

variable {s t u : State} {x : Xf}

theorem refl (s : State) : s.SameInputs s := ⟨rfl, rfl, rfl⟩

theorem trans (h : s.SameInputs t) (h' : t.SameInputs u) : s.SameInputs u := by
  obtain ⟨xRate, yRate, bank⟩ := h
  obtain ⟨xRate', yRate', bank'⟩ := h'
  exact ⟨xRate'.trans xRate, yRate'.trans yRate, bank'.trans bank⟩

theorem report {b : BankId} (other : b ≠ .input) (code : ErrorCode) (y : Byte) (s : State) :
    s.SameInputs (report b code y s) := by
  have bank := report_bank b code y s .input
  rw [if_neg (fun h => other h.1)] at bank
  refine ⟨?_, ?_, bank⟩
  all_goals rw [report_eq]

theorem enterStation (new : StationState) (s : State) : s.SameInputs (enterStation new s) := by
  unfold Machine.enterStation
  split <;> exact refl s

theorem formQuorum (s : State) : s.SameInputs (formQuorum s) := by
  unfold Machine.formQuorum quorumBecomesMet
  dsimp only
  split
  · exact refl s
  split
  · split
    · exact enterStation _ (stopHold (setWatchRun 0 _))
    · exact enterStation _ (stopHold (setWatchRun 0 _))
    · exact refl s
  · exact refl s

theorem levelNotice (old new : Level) (s : State) : s.SameInputs (levelNotice old new s) := formQuorum (s.setStation _)

theorem rederive (s : State) : s.SameInputs (rederive x s) := by
  unfold Machine.rederive
  dsimp only
  split
  · exact refl s
  · exact levelNotice _ _ (Machine.takeChange _ _ _ (refreshAlarmOut _))

theorem captureSecond (a : Nat) (s : State) : s.SameInputs (captureSecond x a s) := by
  unfold Machine.captureSecond
  split <;> exact refl s

theorem updateTheta (a : Nat) (s : State) : s.SameInputs (updateTheta x a s) := by
  unfold Machine.updateTheta
  dsimp only
  split
  · exact report (by decide) _ _ s
  · exact refl s

theorem updateThermalLevel (s : State) : s.SameInputs (updateThermalLevel x s) := by
  unfold Machine.updateThermalLevel
  dsimp only
  split
  · exact refl s
  · exact rederive (s.mapXf x _)

theorem thermalBoundary (sum : Nat) (s : State) : s.SameInputs (thermalBoundary x sum s) := by
  unfold Machine.thermalBoundary
  dsimp only
  split
  · exact captureSecond _ s
  · exact ((updateTheta _ s).trans (updateThermalLevel _)).trans (captureSecond _ _)

theorem combine (s : State) : s.SameInputs (combine x s) := by
  unfold Machine.combine
  dsimp only
  split
  · exact refl s
  · exact report (by decide) _ _ s

theorem countSecond (s : State) : s.SameInputs (countSecond x s) := by
  unfold Machine.countSecond
  dsimp only
  split
  · exact thermalBoundary _ (s.mapXf x _)
  · exact refl s

theorem complete (s : State) : s.SameInputs (complete x s) := by
  have records : ∀ (u : State) (f : XfRec → XfRec), u.SameInputs (u.mapXf x f) := fun u _ => refl u
  have evaluated : ∀ u : State, u.SameInputs (evaluate x u) := fun u => (records u _).trans (rederive _)
  exact ((((combine s).trans (records _ _)).trans (records _ _)).trans (evaluated _)).trans (countSecond _)

theorem memberNotice (j : Slot) (live : Bool) (s : State) : s.SameInputs (memberNotice x j live s) := by
  have quality : ∀ u : State, u.SameInputs (noticeQuality x u) := fun u => by
    unfold noticeQuality
    split
    · exact refl u
    · split <;> exact refl u
  have shrinks : ∀ u : State, u.SameInputs (afterShrinkage x u) := fun u => by
    unfold afterShrinkage completeIfMarked
    split
    · exact report (by decide) _ _ (u.mapXf x _)
    split
    · split
      · exact complete u
      · exact refl u
    · exact refl u
  have noticed := quality (s.mapXf x (fun r => { r with waitSet := r.waitSet.set j live }))
  unfold Machine.memberNotice
  dsimp only
  split
  · exact noticed.trans (shrinks _)
  · exact noticed

theorem channelNotice (c : Channel) (s : State) : s.SameInputs (channelNotice c s) := by
  unfold Machine.channelNotice
  split
  · exact refl s
  · split
    · exact memberNotice _ _ s
    · exact refl s

end State.SameInputs

/-! ### A change of channel state, on the record that changes -/

theorem changeChannelState_setChannel (c : Channel) (new : ChannelState) (s : State) (r : ChannelRec) :
    changeChannelState c new (s.setChannel c r) =
      channelNotice c (takeChange (.channel c) r.state.rank new.rank (s.setChannel c { r with state := new })) := by
  unfold changeChannelState
  rw [State.setChannel_channel_same, State.mapChannel_setChannel]

theorem clearSecond_setChannel (c : Channel) (s : State) (r : ChannelRec) :
    clearSecond c (s.setChannel c r) =
      (clearSecond c s).setChannel c
        { r with second := if (s.channelEntry c).kind = .neutral then r.second else FieldSecond.cleared } := by
  by_cases neutral : (s.channelEntry c).kind = .neutral
  · rw [clearSecond_of_neutral neutral, clearSecond_of_neutral (s := s.setChannel c r) neutral, if_pos neutral]
  · rw [clearSecond_of_field neutral, clearSecond_of_field (s := s.setChannel c r) neutral, if_neg neutral]
    unfold State.withSecond
    rw [State.setChannel_channel_same, State.setChannel_setChannel]
    exact (congrArg (withdrawalNotice c) (State.setChannel_setChannel ..).symm)

/-- A withdrawn axis rate is not the channel's own (R98). -/
theorem withdrawRate_ne (c : Channel) (axis : Option (Int × Channel)) (v : Int) : withdrawRate c axis ≠ some (v, c) := by
  cases axis with
  | none => nofun
  | some at' =>
    unfold withdrawRate
    dsimp only
    split
    · nofun
    · next other => exact fun same => other (congrArg Prod.snd (Option.some.inj same))

theorem changeChannelState_cleared (c : Channel) (new : ChannelState) (s : State) (r : ChannelRec) (b : BankId)
    (code : ErrorCode) (x : Byte) :
    changeChannelState c new (report b code x (clearSecond c (s.setChannel c r))) =
      channelNotice c (takeChange (.channel c) r.state.rank new.rank
        (report b code x (clearSecond c (s.setChannel c { r with state := new })))) := by
  rw [clearSecond_setChannel, report_setChannel, changeChannelState_setChannel, clearSecond_setChannel,
    report_setChannel]

/-- A channel's record written, its per-second fields cleared, CHANNEL LOST reported, and a CHANNEL change with its
notice: what the channel and its surroundings are then. -/
theorem lostChange_spec (c : Channel) (s : State) (r : ChannelRec) (f n : Nat) :
    let t := channelNotice c (takeChange (.channel c) f n
      (report .input .channelLost (subjectOf c.val) (clearSecond c (s.setChannel c r))))
    t.channel c =
      { r with second := if (s.channelEntry c).kind = .neutral then r.second else FieldSecond.cleared } ∧
    WorksOnChannel c s t ∧
    ((s.channelEntry c).kind ≠ .neutral → ∀ v, t.station.xRate ≠ some (v, c) ∧ t.station.yRate ≠ some (v, c)) ∧
    (s.phase = .running → t.bank .input = (s.bank .input).take s.clock.uptime .channelLost (subjectOf c.val)) := by
  intro t
  have works : WorksOnChannel c s t :=
    ((((WorksOnChannel.setChannel s r).trans (.clearSecond _)).trans (.report _ _ _ _)).trans
      (.takeChange _ _ _ _)).trans (.channelNotice _)
  obtain ⟨xRate, yRate, bank⟩ := State.SameInputs.channelNotice c (takeChange (.channel c) f n
      (report .input .channelLost (subjectOf c.val) (clearSecond c (s.setChannel c r))))
  refine ⟨?_, works, fun field v => ?_, fun running => ?_⟩
  · refine (channelNotice_channel ..).trans ((report_channel ..).trans ?_)
    rw [clearSecond_setChannel, State.setChannel_channel_same]
  · have station : (report .input .channelLost (subjectOf c.val) (clearSecond c (s.setChannel c r))).station =
        { s.station with xRate := withdrawRate c s.station.xRate, yRate := withdrawRate c s.station.yRate } := by
      rw [report_eq, clearSecond_of_field (s := s.setChannel c r) field]
      rfl
    have x : t.station.xRate = withdrawRate c s.station.xRate := xRate.trans (congrArg StationRec.xRate station)
    have y : t.station.yRate = withdrawRate c s.station.yRate := yRate.trans (congrArg StationRec.yRate station)
    rw [x, y]
    exact ⟨withdrawRate_ne c _ v, withdrawRate_ne c _ v⟩
  · have cleared : ∀ u : State, (clearSecond c u).banks = u.banks ∧ (clearSecond c u).clock = u.clock ∧
        (clearSecond c u).phase = u.phase := fun u => by
      unfold clearSecond
      split <;> exact ⟨rfl, rfl, rfl⟩
    obtain ⟨banks, clock, phase⟩ := cleared (s.setChannel c r)
    have before : (clearSecond c (s.setChannel c r)).bank .input = s.bank .input :=
      congrArg (fun v => v[BankId.input.index]) banks
    refine bank.trans ((report_bank ..).trans ?_)
    rw [if_pos ⟨rfl, State.bankTakes_of_running (phase.trans running) _⟩, before, clock]
    rfl

/-- Settles O38: each expiry writes the record, takes its CHANNEL change and sends the notice. -/
theorem channelTimerExpiries : Obligations.ChannelTimerExpiries := by
  intro s c
  refine ⟨fun stopped => ?_, fun stopped => ?_, fun runs => ?_, fun runs => ?_⟩
  · exact congrArg Host.Outcome.next (if_neg (by rw [stopped]; nofun))
  · exact congrArg Host.Outcome.next (if_neg (by rw [stopped]; nofun))
  · have expires : staleExpires c s = channelNotice c (takeChange (.channel c) (s.channel c).state.rank
        ChannelState.stale.rank (s.setChannel c
          { s.channel c with state := .stale, degraded := 0, good := 0, staleTimer := none })) :=
      (if_pos runs).trans (changeChannelState_setChannel ..)
    refine ⟨congrArg Host.Outcome.next expires, ?_, ?_⟩
    · exact (channelNotice_channel ..).trans (State.setChannel_channel_same ..)
    · exact ((WorksOnChannel.setChannel s _).trans (.takeChange _ _ _ _)).trans (.channelNotice _)
  · obtain ⟨channel, ⟨others, xfs, around⟩, axis, bank⟩ := lostChange_spec c s
      { s.channel c with
        state := .lost, degraded := 0, good := 0, staleTimer := none, lostTimer := none, output := 0
        clipped := false } (s.channel c).state.rank ChannelState.lost.rank
    have expires := (if_pos runs : lostExpires c s = _).trans (changeChannelState_cleared ..)
    exact ⟨congrArg Host.Outcome.next expires, channel, others, xfs, around, axis, bank⟩

end Sys2Proof.Machine

/-! PROOF. A completion (O41): the record that its first three steps combine, the evaluation, and the second. What the
re-derivation and the thermal unit leave of a record is one relation, `SameAssembly`. -/

namespace Sys2Proof.Machine

/-! ### What the level work and the thermal unit leave of a record -/

/-- `r` differs from `q` in the reported level, the flag, Θ and T alone. -/
def XfRec.SameAssembly (q r : XfRec) : Prop :=
  r = { q with reported := r.reported, unack := r.unack, theta := r.theta, thermal := r.thermal }

namespace XfRec.SameAssembly

theorem refl (r : XfRec) : r.SameAssembly r := rfl

theorem trans {p q r : XfRec} (h : p.SameAssembly q) (h' : q.SameAssembly r) : p.SameAssembly r := by
  unfold SameAssembly at *
  rw [h] at h'
  exact h'

/-- The fields that the relation keeps. -/
theorem fields {q r : XfRec} (h : q.SameAssembly r) :
    r.inService = q.inService ∧ r.quality = q.quality ∧ r.waitSet = q.waitSet ∧ r.pendingCycle = q.pendingCycle ∧
    r.marked = q.marked ∧ r.lastCompleted = q.lastCompleted ∧ r.current = q.current ∧ r.magnitude = q.magnitude ∧
    r.levels = q.levels ∧ r.secondSum = q.secondSum ∧ r.secondCount = q.secondCount := by
  unfold SameAssembly at h
  rw [h]
  exact ⟨rfl, rfl, rfl, rfl, rfl, rfl, rfl, rfl, rfl, rfl, rfl⟩

theorem withReported (latch : Bool) (new : Level) (r : XfRec) : r.SameAssembly (r.withReported latch new) := by
  unfold SameAssembly XfRec.withReported
  split
  · rfl
  split
  · rfl
  split <;> rfl

theorem rederived (e : XfEntry) (r : XfRec) : r.SameAssembly (r.rederived e) := withReported ..

theorem heated (e : XfEntry) (a : Nat) (r : XfRec) : r.SameAssembly (r.heated e a) := by
  have thermal : ∀ (q : XfRec) (new : Level), q.SameAssembly (q.withThermal e new) := fun q new => by
    unfold XfRec.withThermal
    split
    · exact refl q
    · exact rederived e { q with thermal := new }
  exact thermal { r with theta := _ } _

end XfRec.SameAssembly

theorem captureSecond_xf (x o : Xf) (a : Nat) (s : State) : (captureSecond x a s).xf o = s.xf o := by
  unfold captureSecond
  split <;> rfl

theorem thermalBoundary_sameAssembly (x : Xf) (sum : Nat) (s : State) :
    (s.xf x).SameAssembly ((thermalBoundary x sum s).xf x) := by
  unfold thermalBoundary
  dsimp only
  split
  · rw [captureSecond_xf]
    exact .refl _
  · rw [captureSecond_xf, heat_xf]
    exact .heated _ _ _

/-! ### The combination (R44, R45) -/

theorem ChannelState.contributes_iff (st : ChannelState) :
    st.contributes = true ↔ st = .valid ∨ st = .suspect ∨ st = .stale := by
  cases st <;> decide

/-- What slot `j` of transformer `x` gives the weighted sum (R44). -/
def State.memberShare (s : State) (x : Xf) (j : Slot) : Int :=
  match (s.xfEntry x).slots[j].channel with
  | none => 0
  | some c =>
    if (s.channel c).state = .valid ∨ (s.channel c).state = .suspect ∨ (s.channel c).state = .stale then
      (s.xfEntry x).slots[j].weight * (s.channel c).output
    else 0

theorem slotContribution_eq (s : State) (x : Xf) (j : Slot) :
    slotContribution s (s.xfEntry x).slots[j] = s.memberShare x j := by
  unfold slotContribution State.memberShare
  split
  · next h => rw [h]
  · next c h =>
    rw [h]
    exact if_congr (ChannelState.contributes_iff _) rfl rfl

theorem weightedSum_eq (s : State) (x : Xf) :
    weightedSum x s = s.memberShare x 0 + s.memberShare x 1 + s.memberShare x 2 + s.memberShare x 3 := by
  have slots : List.finRange 4 = [0, 1, 2, 3] := rfl
  unfold weightedSum
  rw [slots]
  simp only [List.map_cons, List.map_nil, List.sum_cons, List.sum_nil, slotContribution_eq]
  ring

/-- The combined current of transformer `x`, unclamped (R44). -/
def State.rawCurrent (s : State) (x : Xf) : Int := combineRaw (weightedSum x s)

/-- The combined current of transformer `x` (R44). -/
def State.newCurrent (s : State) (x : Xf) : Int := clampTo (-5000) 5000 (s.rawCurrent x)

/-- The state in which a completion works: TRANSFORMER CLAMP reported where the clamp acts (R44). -/
def State.clampReported (s : State) (x : Xf) : State :=
  if s.rawCurrent x = s.newCurrent x then s else report .compute .transformerClamp (subjectOf x.val) s

theorem State.clampReported_eq (s : State) (x : Xf) :
    s.clampReported x = { s with banks := (s.clampReported x).banks, queue := (s.clampReported x).queue } := by
  unfold clampReported
  split
  · rfl
  · exact report_eq ..

theorem combine_eq (s : State) (x : Xf) :
    combine x s = (s.clampReported x).setXf x
      { s.xf x with current := s.newCurrent x, magnitude := (s.newCurrent x).natAbs } := by
  have xf : (s.clampReported x).xf x = s.xf x := by
    rw [State.clampReported_eq]
    rfl
  rw [← xf]
  unfold State.clampReported
  simp only [eq_comm (a := s.rawCurrent x)]
  rfl

/-- Every used slot's channel is VALID, marked and unclipped (R45). -/
def State.Good (s : State) (x : Xf) : Prop :=
  ∀ (j : Slot) (c : Channel), (s.xfEntry x).slots[j].channel = some c →
    (s.channel c).state = .valid ∧ (s.xf x).marked[j] = true ∧ (s.channel c).clipped = false

theorem slotSound_iff (s : State) (marked : SlotSet) (m : MemberSlot) (j : Slot) :
    slotSound s marked m j = true ↔ ∀ c, m.channel = some c →
      (s.channel c).state = .valid ∧ marked[j] = true ∧ (s.channel c).clipped = false := by
  unfold slotSound
  cases m.channel with
  | none => simp
  | some c => simp [and_assoc]

theorem allSound_iff (s : State) (x : Xf) :
    (List.finRange 4).all (fun i => slotSound s (s.xf x).marked (s.xfEntry x).slots[i] i) = true ↔ s.Good x := by
  simp only [List.all_eq_true, slotSound_iff, List.mem_finRange, forall_true_left]
  exact Iff.rfl

/-- The quality that a completion judges. -/
theorem judged_quality {s : State} {x : Xf} {quality : Quality} (good : s.Good x → quality = .good)
    (not : ¬s.Good x → quality = .degraded) :
    (if (List.finRange 4).all (fun i => slotSound s (s.xf x).marked (s.xfEntry x).slots[i] i) then Quality.good
      else .degraded) = quality := by
  by_cases h : s.Good x
  · rw [if_pos ((allSound_iff s x).2 h), good h]
  · rw [if_neg fun sound => h ((allSound_iff s x).1 sound), not h]

/-- The record that the first four steps of a completion leave before the reported level is re-derived. -/
def State.combined (s : State) (x : Xf) (quality : Quality) : XfRec :=
  { s.xf x with
    quality := quality, current := s.newCurrent x, magnitude := (s.newCurrent x).natAbs
    lastCompleted := (s.xf x).pendingCycle, pendingCycle := none, marked := Vector.replicate 4 false
    levels := evaluateLevels (s.xfEntry x) s.station.state.raised (s.newCurrent x).natAbs (s.xf x).levels }

theorem judgeQuality_combine {s : State} {x : Xf} {quality : Quality} (good : s.Good x → quality = .good)
    (not : ¬s.Good x → quality = .degraded) :
    judgeQuality x (combine x s) = (s.clampReported x).setXf x
      { s.xf x with
        quality := quality, current := s.newCurrent x, magnitude := (s.newCurrent x).natAbs } := by
  rw [combine_eq, ← judged_quality good not]
  unfold judgeQuality
  rw [State.mapXf_eq, State.setXf_xf_same, State.setXf_setXf, State.clampReported_eq]
  rfl

theorem evaluate_combined {s : State} {x : Xf} {quality : Quality} (good : s.Good x → quality = .good)
    (not : ¬s.Good x → quality = .degraded) :
    evaluate x (closeAssembly x (judgeQuality x (combine x s))) =
      rederive x ((s.clampReported x).setXf x (s.combined x quality)) := by
  rw [judgeQuality_combine good not]
  unfold closeAssembly evaluate
  dsimp only
  rw [State.mapXf_eq, State.mapXf_eq, State.setXf_setXf, State.setXf_xf_same, State.setXf_setXf, State.setXf_xf_same,
    State.clampReported_eq]
  rfl

/-- The second count and the second sum after a completion (R46). -/
theorem complete_eq {s : State} {x : Xf} {quality : Quality} (good : s.Good x → quality = .good)
    (not : ¬s.Good x → quality = .degraded) :
    let u := rederive x ((s.clampReported x).setXf x (s.combined x quality))
    let second := fun sum count : Nat => u.setXf x { u.xf x with secondSum := sum, secondCount := count }
    complete x s = if (s.xf x).secondCount + 1 = s.setup.freq then
        thermalBoundary x ((s.xf x).secondSum + (s.newCurrent x).natAbs) (second 0 0)
      else second ((s.xf x).secondSum + (s.newCurrent x).natAbs) ((s.xf x).secondCount + 1) := by
  intro u second
  have record : (s.combined x quality).SameAssembly (u.xf x) := by
    have := XfRec.SameAssembly.rederived (((s.clampReported x).setXf x (s.combined x quality)).xfEntry x)
      (((s.clampReported x).setXf x (s.combined x quality)).xf x)
    rw [← rederive_xf] at this
    rwa [State.setXf_xf_same] at this
  have freq : u.setup = s.setup := by
    have h := (WorksOn.rederive (x := x) ((s.clampReported x).setXf x (s.combined x quality))).2.2.2.2.1
    refine h.trans ?_
    rw [State.clampReported_eq]
    rfl
  unfold complete
  rw [evaluate_combined good not]
  show countSecond x u = _
  unfold countSecond
  dsimp only
  obtain ⟨-, -, -, -, -, -, -, magnitude, -, sum, count⟩ := record.fields
  have magnitude' : (u.xf x).magnitude = (s.newCurrent x).natAbs := magnitude
  have sum' : (u.xf x).secondSum = (s.xf x).secondSum := sum
  have count' : (u.xf x).secondCount = (s.xf x).secondCount := count
  rw [sum', count', magnitude', freq]
  rfl

/-- Transformer `x`'s record after a completion, but for what the level work and the thermal unit make of it. -/
theorem complete_record {s : State} {x : Xf} {quality : Quality} (good : s.Good x → quality = .good)
    (not : ¬s.Good x → quality = .degraded) :
    ({ s.combined x quality with
      secondSum := if (s.xf x).secondCount + 1 = s.setup.freq then 0
        else (s.xf x).secondSum + (s.newCurrent x).natAbs
      secondCount := if (s.xf x).secondCount + 1 = s.setup.freq then 0 else (s.xf x).secondCount + 1 } : XfRec).SameAssembly
      ((complete x s).xf x) := by
  have second : ∀ (u : State) (n m : Nat), (s.combined x quality).SameAssembly (u.xf x) →
      ({ s.combined x quality with secondSum := n, secondCount := m } : XfRec).SameAssembly
        { u.xf x with secondSum := n, secondCount := m } := fun u n m h => by
    unfold XfRec.SameAssembly at *
    rw [h]
  have rederived : (s.combined x quality).SameAssembly
      ((rederive x ((s.clampReported x).setXf x (s.combined x quality))).xf x) := by
    rw [rederive_xf, State.setXf_xf_same]
    exact .rederived _ _
  rw [complete_eq good not]
  by_cases full : (s.xf x).secondCount + 1 = s.setup.freq
  · rw [if_pos full, if_pos full, if_pos full]
    have after := thermalBoundary_sameAssembly x ((s.xf x).secondSum + (s.newCurrent x).natAbs)
      ((rederive x ((s.clampReported x).setXf x (s.combined x quality))).setXf x
        { (rederive x ((s.clampReported x).setXf x (s.combined x quality))).xf x with secondSum := 0, secondCount := 0 })
    rw [State.setXf_xf_same] at after
    exact (second _ 0 0 rederived).trans after
  · rw [if_neg full, if_neg full, if_neg full, State.setXf_xf_same]
    exact second _ _ _ rederived

theorem StationState.raised_eq (st : StationState) : st.raised = (st != .calm) := by
  cases st <;> rfl

theorem clampTo_natAbs_le (raw : Int) : (clampTo (-5000) 5000 raw).natAbs ≤ 5000 := by
  unfold clampTo
  split_ifs <;> omega

/-- Settles O41: the completion's five steps, each on the record that the one before left. -/
theorem completionCombinesTheMembers : Obligations.CompletionCombinesTheMembers := by
  intro s x t r e member raw current good levels clamped
  have share : ∀ j : Slot, member j = s.memberShare x j := fun j => rfl
  have rawIs : s.rawCurrent x = raw := by
    unfold State.rawCurrent combineRaw
    rw [weightedSum_eq]
    rfl
  have currentIs : s.newCurrent x = current := by
    unfold State.newCurrent
    rw [rawIs]
    rfl
  have levelsAre : evaluateLevels (s.xfEntry x) s.station.state.raised (s.newCurrent x).natAbs (s.xf x).levels = levels := by
    rw [currentIs, StationState.raised_eq]
  have clampedIs : s.clampReported x = clamped := by
    unfold State.clampReported
    rw [rawIs, currentIs]
    rfl
  obtain ⟨channels, others, around⟩ := WorksOn.complete (x := x) s
  have record : ∀ quality : Quality, s.combined x quality =
      { r with
        quality := quality, current := current, magnitude := current.natAbs, lastCompleted := r.pendingCycle
        pendingCycle := none, marked := Vector.replicate 4 false, levels := levels } := fun quality => by
    unfold State.combined
    rw [levelsAre, currentIs]
  have state : ∀ quality : Quality, (s.clampReported x).setXf x (s.combined x quality) =
      { clamped with xfs := s.xfs.set x (s.combined x quality) } := fun quality => by
    rw [← clampedIs, State.clampReported_eq]
    rfl
  obtain ⟨judged, judgedGood, judgedNot⟩ :
      ∃ quality : Quality, (s.Good x → quality = .good) ∧ (¬s.Good x → quality = .degraded) := by
    by_cases h : s.Good x
    · exact ⟨.good, fun _ => rfl, fun not => absurd h not⟩
    · exact ⟨.degraded, fun is => absurd is h, fun _ => rfl⟩
  obtain ⟨-, quality, -, pending, marked, last, current', magnitude, levels', sum, count⟩ :=
    (complete_record judgedGood judgedNot).fields
  rw [currentIs] at sum
  refine ⟨fun quality isGood isNot => ?_, current'.trans currentIs, ?_, ?_, fun h => quality.trans (judgedGood h),
    fun h => quality.trans (judgedNot h), last, pending, fun j => ?_, count, sum, levels'.trans levelsAre, others,
    channels, around⟩
  · have completes := complete_eq (s := s) (x := x) isGood isNot
    rw [state, currentIs, record] at completes
    exact completes
  · exact magnitude.trans (congrArg Int.natAbs currentIs)
  · exact magnitude.trans_le (clampTo_natAbs_le _)
  · rw [marked]
    exact Vector.getElem_replicate ..

end Sys2Proof.Machine

/-! PROOF. A block arrival at the assembly (O39) and a member's state-change notice (O40). -/

namespace Sys2Proof.Machine

/-! ### The wait set and the marked set -/

theorem XfRec.allMarked_iff (r : XfRec) :
    r.allMarked = true ↔ ∀ i : Slot, r.waitSet[i] = true → r.marked[i] = true := by
  unfold XfRec.allMarked
  simp [List.all_eq_true, ← Bool.not_eq_true, imp_iff_not_or]

theorem XfRec.waitEmpty_iff (r : XfRec) : r.waitEmpty = true ↔ ∀ i : Slot, r.waitSet[i] = false := by
  unfold XfRec.waitEmpty
  simp [List.all_eq_true]

/-- In an assembly that has just opened its own slot alone is marked (R38, R40). -/
theorem SlotSet.onlyMarked_iff (j i : Slot) : ((Vector.replicate 4 false).set j true)[i] = true ↔ i = j := by
  simp [Vector.getElem_set, Fin.ext_iff, eq_comm]

theorem completeIfMarked_setXf (x : Xf) (s : State) (r : XfRec) (p : Prop) [Decidable p]
    (marked : (∀ i : Slot, r.waitSet[i] = true → r.marked[i] = true) ↔ p) :
    completeIfMarked x (s.setXf x r) = if p then complete x (s.setXf x r) else s.setXf x r := by
  unfold completeIfMarked
  rw [State.setXf_xf_same]
  exact if_congr (r.allMarked_iff.trans marked) rfl rfl

/-! ### An assembly opened -/

/-- The assembly opened at a cycle with one slot marked, and completed where that slot is all it waits for. -/
theorem openAssembly_eq (x : Xf) (j : Slot) (cycle : Cycle) (s : State) (w : SlotSet) (wait : (s.xf x).waitSet = w) :
    openAssembly x j cycle s =
      if ∀ i : Slot, w[i] = true → i = j then
        complete x (s.setXf x { s.xf x with pendingCycle := some cycle, marked := (Vector.replicate 4 false).set j true })
      else s.setXf x { s.xf x with pendingCycle := some cycle, marked := (Vector.replicate 4 false).set j true } := by
  subst wait
  exact completeIfMarked_setXf x s
    { s.xf x with pendingCycle := some cycle, marked := (Vector.replicate 4 false).set j true } _
    (forall_congr' fun i => imp_congr_right fun _ => SlotSet.onlyMarked_iff j i)

/-! ### LATE MEMBER, once for each late slot (R38) -/

theorem foldl_if_eq_iterate {α β : Type} (p : β → Bool) (f : α → α) (l : List β) (a : α) :
    l.foldl (fun u i => if p i then f u else u) a = f^[l.countP p] a := by
  induction l generalizing a with
  | nil => rfl
  | cons i l ih =>
    rw [List.foldl_cons, ih, List.countP_cons]
    cases p i with
    | false => rfl
    | true => exact (Function.iterate_succ_apply f _ a).symm

theorem reportLateMembers_eq (x : Xf) (s : State) :
    reportLateMembers x s = (report .assembly .lateMember (subjectOf x.val))^[
      (List.finRange 4).countP (fun i => (s.xf x).waitSet[i] && !(s.xf x).marked[i])] s :=
  foldl_if_eq_iterate _ _ _ _

theorem iterate_report_xf (b : BankId) (code : ErrorCode) (y : Byte) (n : Nat) (s : State) (x : Xf) :
    ((report b code y)^[n] s).xf x = s.xf x := by
  induction n generalizing s with
  | zero => rfl
  | succ n ih =>
    rw [Function.iterate_succ_apply, ih, report_eq]
    rfl

theorem complete_waitSet (x : Xf) (s : State) : ((complete x s).xf x).waitSet = (s.xf x).waitSet := by
  obtain ⟨quality, good, not⟩ : ∃ quality : Quality,
    (s.Good x → quality = .good) ∧ (¬s.Good x → quality = .degraded) := by
    by_cases h : s.Good x
    · exact ⟨.good, fun _ => rfl, fun not => absurd h not⟩
    · exact ⟨.degraded, fun is => absurd is h, fun _ => rfl⟩
  obtain ⟨-, -, wait, -⟩ := (complete_record good not).fields
  exact wait

/-! ### A block arrival (R36 to R40) -/

section Arrival

variable {s : State} {x : Xf} {j : Slot} {cycle : Cycle}

theorem assemblyArrival_same {p : Cycle} (pending : (s.xf x).pendingCycle = some p) (same : cycleDistance p cycle = 0) :
    assemblyArrival x j cycle s = completeIfMarked x (s.setXf x { s.xf x with marked := (s.xf x).marked.set j true }) := by
  unfold assemblyArrival
  rw [pending]
  exact if_pos same

theorem assemblyArrival_later {p : Cycle} (pending : (s.xf x).pendingCycle = some p) (later : 0 < cycleDistance p cycle) :
    assemblyArrival x j cycle s = openAssembly x j cycle (complete x (reportLateMembers x s)) := by
  unfold assemblyArrival
  rw [pending]
  exact (if_neg (by omega)).trans (if_pos later)

theorem assemblyArrival_earlier {p : Cycle} (pending : (s.xf x).pendingCycle = some p)
    (earlier : cycleDistance p cycle < 0) :
    assemblyArrival x j cycle s = report .assembly .lateBlock (subjectOf x.val) s := by
  unfold assemblyArrival
  rw [pending]
  exact (if_neg (by omega)).trans (if_neg (by omega))

theorem assemblyArrival_completed {l : Cycle} (pending : (s.xf x).pendingCycle = none)
    (last : (s.xf x).lastCompleted = some l) :
    assemblyArrival x j cycle s =
      if cycleDistance l cycle ≤ 0 then report .assembly .lateBlock (subjectOf x.val) s
      else openAssembly x j cycle s := by
  unfold assemblyArrival
  rw [pending, last]

theorem assemblyArrival_first (pending : (s.xf x).pendingCycle = none) (last : (s.xf x).lastCompleted = none) :
    assemblyArrival x j cycle s = openAssembly x j cycle s := by
  unfold assemblyArrival
  rw [pending, last]

end Arrival

/-- Settles O39: the ways of a block arrival are those of the assembly, each with its opening or its completion. -/
theorem assemblyTakesABlock : Obligations.AssemblyTakesABlock := by
  intro s c cycle
  refine ⟨(blockArrival_worksOn c cycle s).1, fun x j place => ?_⟩
  intro r subject late opened
  have routed : blockArrival c cycle s = if (s.xf x).inService then assemblyArrival x j cycle s else s := by
    unfold blockArrival
    rw [place]
  have opens : openAssembly x j cycle s = opened s := openAssembly_eq x j cycle s _ rfl
  refine ⟨fun off => ?_, fun serving => ?_⟩
  · rw [routed, if_neg (by rw [show (s.xf x).inService = false from off]; nofun)]
  rw [show blockArrival c cycle s = assemblyArrival x j cycle s from routed.trans (if_pos serving)]
  refine ⟨fun p pending same => ?_, fun p pending later => ?_, fun p pending earlier => ?_,
    fun l pending last earlier => ?_, fun l pending last later => ?_, fun pending last => ?_⟩
  · rw [assemblyArrival_same pending same]
    exact completeIfMarked_setXf x s _ _ Iff.rfl
  · rw [assemblyArrival_later pending later, reportLateMembers_eq]
    exact openAssembly_eq x j cycle _ _ ((complete_waitSet ..).trans (congrArg XfRec.waitSet (iterate_report_xf ..)))
  · exact assemblyArrival_earlier pending earlier
  · exact (assemblyArrival_completed pending last).trans (if_pos earlier)
  · exact ((assemblyArrival_completed pending last).trans (if_neg (by omega))).trans opens
  · exact (assemblyArrival_first pending last).trans opens

/-! ### A member's notice (R34, R35, R41, R42) -/

theorem ChannelState.live_eq (st : ChannelState) : st.live = (st == .valid || st == .suspect) := by
  cases st <;> rfl

theorem allMembersValid_iff (x : Xf) (s : State) :
    allMembersValid x s = true ↔
      ∀ (i : Slot) (d : Channel), (s.xfEntry x).slots[i].channel = some d → (s.channel d).state = .valid := by
  unfold allMembersValid
  rw [List.all_eq_true]
  refine ⟨fun h i d member => ?_, fun h i _ => ?_⟩
  · have valid := h i (List.mem_finRange i)
    rw [member] at valid
    exact eq_of_beq valid
  · cases member : (s.xfEntry x).slots[i].channel with
    | none => rfl
    | some d => exact beq_iff_eq.2 (h i d member)

/-- The quality that a notice leaves beside a wait set (R35). -/
theorem noticeQuality_setXf {x : Xf} {s : State} {r : XfRec} {quality : Quality}
    (empty : (∀ i : Slot, r.waitSet[i] = false) → quality = .noData)
    (degrades : ¬(∀ i : Slot, r.waitSet[i] = false) → r.quality = .good → allMembersValid x s = false →
      quality = .degraded)
    (keeps : ¬(∀ i : Slot, r.waitSet[i] = false) → (r.quality ≠ .good ∨ allMembersValid x s = true) →
      quality = r.quality) :
    noticeQuality x (s.setXf x r) = s.setXf x { r with quality := quality } := by
  unfold noticeQuality
  rw [State.setXf_xf_same, State.mapXf_eq, State.mapXf_eq, State.setXf_setXf, State.setXf_setXf, State.setXf_xf_same]
  by_cases none : ∀ i : Slot, r.waitSet[i] = false
  · rw [if_pos (r.waitEmpty_iff.2 none), empty none]
  rw [if_neg fun h => none (r.waitEmpty_iff.1 h)]
  by_cases falls : r.quality = .good ∧ allMembersValid x s = false
  · rw [if_pos (show r.quality = .good ∧ allMembersValid x (s.setXf x r) = false from falls),
      degrades none falls.1 falls.2]
  · rw [if_neg (show ¬(r.quality = .good ∧ allMembersValid x (s.setXf x r) = false) from falls),
      keeps none (by
        rw [← Bool.not_eq_false]
        exact not_and_or.1 falls)]

/-- Settles O40: the slot moves in the wait set, the quality follows, and a shrinkage discards or completes. -/
theorem memberNoticeMovesTheWaitSet : Obligations.MemberNoticeMovesTheWaitSet := by
  intro s c
  refine ⟨(channelNotice_worksOn c s).1, fun x j place => ?_⟩
  intro r live wait empty allValid shrinks put
  have routed : channelNotice c s =
      if (s.xf x).inService then memberNotice x j (s.channel c).state.live s else s := by
    unfold channelNotice
    rw [place]
  refine ⟨fun off => ?_, fun serving quality isEmpty degrades keeps => ?_⟩
  · rw [routed, if_neg (by rw [show (s.xf x).inService = false from off]; nofun)]
  have valid : allMembersValid x s = true ↔ allValid := allMembersValid_iff x s
  have invalid : allMembersValid x s = false → ¬allValid := fun h v => by
    rw [valid.2 v] at h
    cases h
  intro v marked
  have noticed : noticeQuality x (s.setXf x { r with waitSet := wait }) = put v :=
    noticeQuality_setXf isEmpty (fun some good h => degrades some good (invalid h))
      (fun some h => keeps some (h.imp_right valid.1))
  have does : channelNotice c s = if (r.waitSet[j] && !live) = true then afterShrinkage x (put v) else put v := by
    rw [routed, if_pos serving, ChannelState.live_eq]
    unfold memberNotice
    dsimp only
    rw [State.mapXf_eq]
    show (if _ then afterShrinkage x (noticeQuality x (s.setXf x { r with waitSet := wait }))
      else noticeQuality x (s.setXf x { r with waitSet := wait })) = _
    rw [noticed]
  have shrinks_iff : (r.waitSet[j] && !live) = true ↔ shrinks := by
    rw [Bool.and_eq_true, Bool.not_eq_true']
  have xf : (put v).xf x = v := State.setXf_xf_same ..
  have emptied : v.waitEmpty = true ↔ empty := v.waitEmpty_iff
  rw [does]
  refine ⟨fun grows => if_neg (mt shrinks_iff.1 grows), fun falls none => ?_, fun falls some all => ?_,
    fun falls some notAll => ?_⟩
  · rw [if_pos (shrinks_iff.2 falls)]
    unfold afterShrinkage waitSetEmptied
    rw [xf, if_pos (emptied.2 none), State.mapXf_eq, xf]
    exact congrArg (report .assembly .noData _) (State.setXf_setXf ..)
  · rw [if_pos (shrinks_iff.2 falls)]
    unfold afterShrinkage
    rw [xf, if_neg (mt emptied.1 some), if_pos (Option.isSome_iff_ne_none.2 all.1)]
    exact (completeIfMarked_setXf x s v _ Iff.rfl).trans (if_pos all.2)
  · rw [if_pos (shrinks_iff.2 falls)]
    unfold afterShrinkage
    rw [xf, if_neg (mt emptied.1 some)]
    by_cases pending : v.pendingCycle = none
    · rw [if_neg (by rw [pending]; nofun)]
    · rw [if_pos (Option.isSome_iff_ne_none.2 pending)]
      exact (completeIfMarked_setXf x s v _ Iff.rfl).trans (if_neg fun all => notAll ⟨pending, all⟩)

end Sys2Proof.Machine

/-! PROOF. A second boundary (O44): the step of Θ, the table of T, the capture test, and the re-derivation. -/

namespace Sys2Proof.Machine

/-! ### The step of Θ (R84) -/

theorem thetaStep_zero (theta target : Nat) : thetaStep 0 theta target = target := rfl

/-- The rounded shift step never takes Θ below 0. -/
theorem thetaStep_cast {shift : Nat} (shifts : 1 ≤ shift) (theta target : Nat) :
    ((thetaStep shift theta target : Nat) : Int) =
      theta + ((target : Int) - theta + ((2 ^ (shift - 1) : Nat) : Int)) / ((2 ^ shift : Nat) : Int) := by
  unfold thetaStep
  rw [if_neg (by omega)]
  refine Int.toNat_of_nonneg ?_
  have whole : 1 ≤ 2 ^ shift := Nat.one_le_two_pow
  generalize 2 ^ shift = n at whole
  generalize 2 ^ (shift - 1) = h
  have down : (-(theta : Int)) * (n : Int) ≤ (target : Int) - theta + (h : Int) := by
    have : (theta : Int) * 1 ≤ theta * n := Int.mul_le_mul_of_nonneg_left (by omega) (by omega)
    rw [Int.neg_mul]
    omega
  have := (Int.le_ediv_iff_mul_le (by omega)).2 down
  omega

/-! ### The table of T (R85, R86) -/

section ThermalLevel

variable {e : XfEntry} {theta : Nat}

theorem thermalLevelOf_of_alarmLimit (reached : e.alarmLimit ≤ theta) (level : Level) :
    thermalLevelOf e theta level = .alarm := if_pos reached

theorem thermalLevelOf_quiet (below : theta < e.alarmLimit) :
    thermalLevelOf e theta .quiet = if e.alertLimit ≤ theta then .alert else .quiet := by
  unfold thermalLevelOf
  rw [if_neg (by omega)]
  exact if_congr ⟨And.left, fun h => ⟨h, by decide⟩⟩ rfl rfl

theorem thermalLevelOf_alert (below : theta < e.alarmLimit) :
    thermalLevelOf e theta .alert = if e.alertLimit ≤ theta + 200 then .alert else .quiet := by
  unfold thermalLevelOf
  rw [if_neg (by omega), if_neg (fun h => absurd h.2 (by decide))]
  rfl

theorem thermalLevelOf_alarm (below : theta < e.alarmLimit) :
    thermalLevelOf e theta .alarm =
      if e.alarmLimit ≤ theta + 200 then .alarm else if e.alertLimit ≤ theta + 200 then .alert else .quiet := by
  unfold thermalLevelOf
  rw [if_neg (by omega), if_neg (fun h => absurd h.2 (by decide))]
  rfl

end ThermalLevel

/-! ### The capture test (R90, R91) -/

theorem captureSecond_eq (x : Xf) (a : Nat) (u : State) :
    captureSecond x a u =
      if u.setup.captureLevel ≤ (u.xf x).reported.num ∨ u.station.state ≠ .calm then
        u.setRecorder (u.recorder.write
          { second := u.clock.uptime, xf := x, meanMagnitude := a, current := (u.xf x).current, theta := (u.xf x).theta,
            reported := (u.xf x).reported, quality := (u.xf x).quality, station := u.station.state })
      else u := by
  unfold captureSecond
  refine if_congr ?_ rfl rfl
  unfold captureTest
  rw [Bool.or_eq_true, decide_eq_true_iff, StationState.raised_eq, bne_iff_ne]

/-! ### The thermal step (R83 to R87) -/

/-- Transformer `x`'s record after the new Θ and T, before its reported level is re-derived. -/
def State.heatedRecord (s : State) (x : Xf) (mean : Nat) : XfRec :=
  let theta := thetaStep (s.xfEntry x).shift (s.xf x).theta (min (mean * (s.xfEntry x).coefficient / 10) 65535)
  { s.xf x with theta := theta, thermal := thermalLevelOf (s.xfEntry x) theta (s.xf x).thermal }

/-- The state in which a thermal step works: THERMAL CLAMP reported where the clamp acts (R83). -/
def State.thermalClamped (s : State) (x : Xf) (mean : Nat) : State :=
  if 655360 ≤ mean * (s.xfEntry x).coefficient then report .compute .thermalClamp (subjectOf x.val) s else s

theorem State.thermalClamped_eq (s : State) (x : Xf) (mean : Nat) :
    s.thermalClamped x mean =
      { s with banks := (s.thermalClamped x mean).banks, queue := (s.thermalClamped x mean).queue } := by
  unfold thermalClamped
  split
  · exact report_eq ..
  · rfl

theorem updateTheta_eq (x : Xf) (mean : Nat) (s : State) :
    updateTheta x mean s = (s.thermalClamped x mean).setXf x
      { s.xf x with
        theta := thetaStep (s.xfEntry x).shift (s.xf x).theta (min (mean * (s.xfEntry x).coefficient / 10) 65535) } := by
  have clamps : 65535 < mean * (s.xfEntry x).coefficient / 10 ↔ 655360 ≤ mean * (s.xfEntry x).coefficient := by omega
  have xf : (s.thermalClamped x mean).xf x = s.xf x := by
    rw [State.thermalClamped_eq]
    rfl
  rw [← xf]
  unfold updateTheta thermalTargetRaw State.thermalClamped
  simp only [clamps]
  rfl

theorem heat_eq (x : Xf) (mean : Nat) (s : State) :
    updateThermalLevel x (updateTheta x mean s) =
      if (s.heatedRecord x mean).thermal = (s.xf x).thermal then
        (s.thermalClamped x mean).setXf x (s.heatedRecord x mean)
      else rederive x ((s.thermalClamped x mean).setXf x (s.heatedRecord x mean)) := by
  have entry : (s.thermalClamped x mean).xfEntry x = s.xfEntry x := by
    rw [State.thermalClamped_eq]
    rfl
  rw [updateTheta_eq]
  unfold updateThermalLevel
  dsimp only
  rw [State.mapXf_eq, State.setXf_setXf, State.setXf_xf_same, State.setXf_xfEntry, entry]
  by_cases same : (s.heatedRecord x mean).thermal = (s.xf x).thermal
  · have record : s.heatedRecord x mean =
        { s.xf x with theta := (s.heatedRecord x mean).theta, thermal := (s.xf x).thermal } := by
      rw [← same]
      rfl
    rw [if_pos same, record]
    exact if_pos same
  · rw [if_neg same]
    exact if_neg same

/-! ### The re-derivation (R63 to R65) -/

theorem XfRec.withReported_of_ne {latch : Bool} {new : Level} {r : XfRec} (moved : r.reported ≠ new) :
    r.withReported latch new =
      { r with
        reported := new
        unack := if new = .alarm then true else if r.reported = .alarm ∧ latch = false then false else r.unack } := by
  unfold XfRec.withReported
  rw [if_neg moved]
  split_ifs <;> rfl

theorem candidateLevel_eq (latch : Bool) (r : XfRec) :
    candidateLevel latch r =
      if latch = true ∧ r.unack = true then .alarm else Level.higher r.levels.condition r.thermal :=
  if_congr (Bool.and_eq_true_iff) rfl rfl

/-- Settles O44: the table's rows, the thermal step with its capture test, and the re-derivation, each as stated above. -/
theorem secondBoundaryMovesTheEstimate : Obligations.SecondBoundaryMovesTheEstimate := by
  refine ⟨fun shift theta target => ⟨?_, fun shifts => thetaStep_cast shifts theta target, thetaStep_between ..⟩,
    fun e theta range => ?_, fun s x sum => ?_, fun s x => ?_⟩
  · rintro rfl
    exact thetaStep_zero theta target
  · obtain ⟨-, -, -, -, -, -, -, low, order, -⟩ := range
    refine ⟨thermalLevelOf_of_alarmLimit, fun below reached => ⟨?_, ?_⟩, fun below => ?_, fun below held => ?_,
      fun below => ?_, fun held => ?_, fun below held => ?_, fun below under => ?_⟩
    · exact (thermalLevelOf_quiet below).trans (if_pos reached)
    · exact (thermalLevelOf_alert below).trans (if_pos (by omega))
    · exact (thermalLevelOf_quiet (by omega)).trans (if_neg (by omega))
    · exact (thermalLevelOf_alert (by omega)).trans (if_pos (by omega))
    · exact (thermalLevelOf_alert (by omega)).trans (if_neg (by omega))
    · obtain reached | below := le_or_gt e.alarmLimit theta
      · exact thermalLevelOf_of_alarmLimit reached _
      · exact (thermalLevelOf_alarm below).trans (if_pos (by omega))
    · exact (thermalLevelOf_alarm (by omega)).trans ((if_neg (by omega)).trans (if_pos (by omega)))
    · exact (thermalLevelOf_alarm (by omega)).trans ((if_neg (by omega)).trans (if_neg (by omega)))
  · intro r e mean captured
    have captures : ∀ u : State, u.setup = s.setup → u.clock = s.clock → (u.xf x).current = r.current →
        (u.xf x).quality = r.quality → captureSecond x mean u = captured u := fun u setup clock current quality => by
      rw [captureSecond_eq, setup, clock, current, quality]
      rfl
    refine ⟨fun idle => ?_, fun active => ?_⟩
    · exact (if_pos idle).trans (captures s rfl rfl rfl rfl)
    · intro theta level clamped u
      have boundary : thermalBoundary x sum s = captureSecond x mean (updateThermalLevel x (updateTheta x mean s)) :=
        if_neg active
      obtain ⟨-, -, -, -, setup, -, -, -, -, clock, -⟩ :=
        (WorksOn.updateTheta (x := x) mean s).trans (.updateThermalLevel _)
      obtain ⟨-, quality, -, -, -, -, current, -⟩ := (XfRec.SameAssembly.heated (s.xfEntry x) mean (s.xf x)).fields
      rw [← heat_xf] at quality current
      have heats := heat_eq x mean s
      rw [boundary, captures _ setup clock current quality, heats]
      have state : (s.thermalClamped x mean).setXf x (s.heatedRecord x mean) = u := by
        have xfs : clamped.xfs = s.xfs := by
          show (s.thermalClamped x mean).xfs = _
          rw [State.thermalClamped_eq]
        show { clamped with xfs := clamped.xfs.set x _ } = { clamped with xfs := s.xfs.set x _ }
        rw [xfs]
        rfl
      rw [state]
      rfl
  · intro r e new unack u
    have candidate : candidateLevel e.latch r = new := candidateLevel_eq ..
    have derives := rederive_setXf x s r
    rw [show s.setXf x r = s from s.setXf_self x] at derives
    refine ⟨fun same => ?_, fun moved => ?_⟩
    · rw [derives, if_pos (same.symm.trans candidate.symm)]
    · have ne : r.reported ≠ new := Ne.symm moved
      rw [derives, show candidateLevel (s.xfEntry x).latch r = new from candidate, if_neg ne,
        XfRec.withReported_of_ne ne]
      rfl

end Sys2Proof.Machine

/-! PROOF. One evaluation (O42), and the runs of evaluations that a level record stands for: its rise count is the length
of a run of evaluations above L, its fall count that of a run below L. -/

namespace Sys2Proof.Machine

/-! ### One evaluation exactly (R58 to R61) -/

/-- The run floor after an evaluation whose pickup level is `p` (R59). -/
def LevelRec.lowest (r : LevelRec) (p : Level) : Level :=
  if r.rise = 0 ∨ p.num < r.runFloor.num then p else r.runFloor

/-- The run ceiling after an evaluation whose hold level is `h` (R60). -/
def LevelRec.highest (r : LevelRec) (h : Level) : Level :=
  if r.fall = 0 ∨ r.runCeiling.num < h.num then h else r.runCeiling

theorem LevelRec.lowest_eq (r : LevelRec) (p : Level) :
    (if r.rise = 0 then p else Level.lower r.runFloor p) = r.lowest p := by
  unfold lowest Level.lower
  by_cases first : r.rise = 0
  · rw [if_pos first, if_pos (.inl first)]
  · simp only [first, false_or, if_false]

theorem LevelRec.highest_eq (r : LevelRec) (h : Level) :
    (if r.fall = 0 then h else Level.higher r.runCeiling h) = r.highest h := by
  unfold highest Level.higher
  by_cases first : r.fall = 0
  · rw [if_pos first, if_pos (.inl first)]
  · simp only [first, false_or, if_false]

/-- A level record between runs. -/
def LevelRec.ended (used : SetUsed) (level : Level) : LevelRec :=
  { condition := level, rise := 0, runFloor := .quiet, fall := 0, runCeiling := .quiet, setUsed := used }

section Evaluation

variable {e : XfEntry} {raised : Bool} {a : Nat} {r : LevelRec}

theorem evaluateLevels_rising (above : r.condition.num < (pickupLevel (setInForce e raised) a).num)
    (short : r.rise + 1 ≠ e.risePersistence) :
    evaluateLevels e raised a r =
      { LevelRec.ended (if raised then .storm else .normal) r.condition with
        rise := r.rise + 1, runFloor := r.lowest (pickupLevel (setInForce e raised) a) } := by
  rw [← LevelRec.lowest_eq]
  exact (if_pos above).trans (if_neg short)

theorem evaluateLevels_risen (above : r.condition.num < (pickupLevel (setInForce e raised) a).num)
    (full : r.rise + 1 = e.risePersistence) :
    evaluateLevels e raised a r =
      LevelRec.ended (if raised then .storm else .normal) (r.lowest (pickupLevel (setInForce e raised) a)) := by
  rw [← LevelRec.lowest_eq]
  exact (if_pos above).trans (if_pos full)

theorem evaluateLevels_falling (notAbove : (pickupLevel (setInForce e raised) a).num ≤ r.condition.num)
    (below : (holdLevel (setInForce e raised) a).num < r.condition.num) (short : r.fall + 1 ≠ e.fallPersistence) :
    evaluateLevels e raised a r =
      { LevelRec.ended (if raised then .storm else .normal) r.condition with
        fall := r.fall + 1, runCeiling := r.highest (holdLevel (setInForce e raised) a) } := by
  rw [← LevelRec.highest_eq]
  exact (if_neg (Nat.not_lt.2 notAbove)).trans ((if_pos below).trans (if_neg short))

theorem evaluateLevels_fallen (notAbove : (pickupLevel (setInForce e raised) a).num ≤ r.condition.num)
    (below : (holdLevel (setInForce e raised) a).num < r.condition.num) (full : r.fall + 1 = e.fallPersistence) :
    evaluateLevels e raised a r =
      LevelRec.ended (if raised then .storm else .normal) (r.highest (holdLevel (setInForce e raised) a)) := by
  rw [← LevelRec.highest_eq]
  exact (if_neg (Nat.not_lt.2 notAbove)).trans ((if_pos below).trans (if_pos full))

theorem evaluateLevels_steady (notAbove : (pickupLevel (setInForce e raised) a).num ≤ r.condition.num)
    (notBelow : r.condition.num ≤ (holdLevel (setInForce e raised) a).num) :
    evaluateLevels e raised a r = LevelRec.ended (if raised then .storm else .normal) r.condition :=
  (if_neg (Nat.not_lt.2 notAbove)).trans (if_neg (Nat.not_lt.2 notBelow))

end Evaluation

/-! ### The evaluations behind a record -/

/-- The pickup level of one evaluation, as a number. -/
def XfEntry.pickup (e : XfEntry) (v : Bool × Nat) : Nat := (pickupLevel (setInForce e v.1) v.2).num

/-- The hold level of one evaluation, as a number. -/
def XfEntry.hold (e : XfEntry) (v : Bool × Nat) : Nat := (holdLevel (setInForce e v.1) v.2).num

/-- `es` ends in `n` evaluations that all satisfy `p`. -/
def EndsInRun (es : List (Bool × Nat)) (n : Nat) (p : Bool × Nat → Prop) : Prop :=
  ∃ older run, es = older ++ run ∧ run.length = n ∧ ∀ v ∈ run, p v

theorem EndsInRun.none (es : List (Bool × Nat)) (p : Bool × Nat → Prop) : EndsInRun es 0 p :=
  ⟨es, [], (List.append_nil es).symm, rfl, fun _ h => absurd h List.not_mem_nil⟩

/-- One more evaluation on a run; a run of none has no condition to pass on. -/
theorem EndsInRun.snoc {es : List (Bool × Nat)} {n : Nat} {p q : Bool × Nat → Prop} {x : Bool × Nat}
    (run : EndsInRun es n p) (passes : n ≠ 0 → ∀ v, p v → q v) (last : q x) : EndsInRun (es ++ [x]) (n + 1) q := by
  obtain ⟨older, run, split, length, all⟩ := run
  refine ⟨older, run ++ [x], ?_, ?_, fun v hv => ?_⟩
  · rw [split, List.append_assoc]
  · rw [List.length_append, length, List.length_singleton]
  · rcases List.mem_append.1 hv with old | new
    · exact passes (length ▸ List.length_pos_iff_ne_nil.2 (List.ne_nil_of_mem old) |>.ne') v (all v old)
    · exact List.mem_singleton.1 new ▸ last

/-- The record stands for the evaluations `es`: its rise count for a run above L that its floor bounds, its fall count
for a run below L that its ceiling bounds. -/
structure LevelRec.StandsFor (e : XfEntry) (es : List (Bool × Nat)) (r : LevelRec) : Prop where
  rise : EndsInRun es r.rise fun v => r.condition.num < e.pickup v ∧ r.runFloor.num ≤ e.pickup v
  fall : EndsInRun es r.fall fun v => e.hold v < r.condition.num ∧ e.hold v ≤ r.runCeiling.num

theorem LevelRec.StandsFor.ended (e : XfEntry) (es : List (Bool × Nat)) (used : SetUsed) (level : Level) :
    (LevelRec.ended used level).StandsFor e es := ⟨.none _ _, .none _ _⟩

section Step

variable {e : XfEntry} {es : List (Bool × Nat)} {r : LevelRec} {x : Bool × Nat}

theorem LevelRec.lowest_le (r : LevelRec) (p : Level) :
    (r.lowest p).num ≤ p.num ∧ (r.rise ≠ 0 → (r.lowest p).num ≤ r.runFloor.num) := by
  unfold lowest
  split_ifs with h
  · exact ⟨le_refl _, fun some => (h.resolve_left some).le⟩
  · exact ⟨by omega, fun _ => le_refl _⟩

theorem LevelRec.le_highest (r : LevelRec) (h : Level) :
    h.num ≤ (r.highest h).num ∧ (r.fall ≠ 0 → r.runCeiling.num ≤ (r.highest h).num) := by
  unfold highest
  split_ifs with g
  · exact ⟨le_refl _, fun some => (g.resolve_left some).le⟩
  · exact ⟨by omega, fun _ => le_refl _⟩

/-- The rising run with the evaluation that continues it. -/
theorem LevelRec.StandsFor.rises (stands : r.StandsFor e es) (above : r.condition.num < e.pickup x) :
    EndsInRun (es ++ [x]) (r.rise + 1) fun v =>
      r.condition.num < e.pickup v ∧ (r.lowest (pickupLevel (setInForce e x.1) x.2)).num ≤ e.pickup v := by
  obtain ⟨last, earlier⟩ := r.lowest_le (pickupLevel (setInForce e x.1) x.2)
  exact stands.rise.snoc (fun some v h => ⟨h.1, (earlier some).trans h.2⟩) ⟨above, last⟩

/-- The falling run with the evaluation that continues it. -/
theorem LevelRec.StandsFor.falls (stands : r.StandsFor e es) (below : e.hold x < r.condition.num) :
    EndsInRun (es ++ [x]) (r.fall + 1) fun v =>
      e.hold v < r.condition.num ∧ e.hold v ≤ (r.highest (holdLevel (setInForce e x.1) x.2)).num := by
  obtain ⟨last, earlier⟩ := r.le_highest (holdLevel (setInForce e x.1) x.2)
  exact stands.fall.snoc (fun some v h => ⟨h.1, h.2.trans (earlier some)⟩) ⟨below, last⟩

theorem LevelRec.StandsFor.evaluateLevels (stands : r.StandsFor e es) :
    (evaluateLevels e x.1 x.2 r).StandsFor e (es ++ [x]) := by
  by_cases above : r.condition.num < e.pickup x
  · by_cases full : r.rise + 1 = e.risePersistence
    · rw [evaluateLevels_risen above full]
      exact .ended ..
    · rw [evaluateLevels_rising above full]
      exact ⟨stands.rises above, .none _ _⟩
  · by_cases below : e.hold x < r.condition.num
    · by_cases full : r.fall + 1 = e.fallPersistence
      · rw [evaluateLevels_fallen (Nat.not_lt.1 above) below full]
        exact .ended ..
      · rw [evaluateLevels_falling (Nat.not_lt.1 above) below full]
        exact ⟨.none _ _, stands.falls below⟩
    · rw [evaluateLevels_steady (Nat.not_lt.1 above) (Nat.not_lt.1 below)]
      exact .ended ..

/-- The level rises at the evaluation that ends a rising run alone (R59). -/
theorem LevelRec.StandsFor.run_of_rise (stands : r.StandsFor e es) (runs : r.Runs e)
    (rises : r.condition.num < (Machine.evaluateLevels e x.1 x.2 r).condition.num) :
    EndsInRun (es ++ [x]) e.risePersistence fun v =>
      r.condition.num < e.pickup v ∧ (Machine.evaluateLevels e x.1 x.2 r).condition.num ≤ e.pickup v := by
  by_cases above : r.condition.num < e.pickup x
  · by_cases full : r.rise + 1 = e.risePersistence
    · rw [evaluateLevels_risen above full, ← full]
      exact stands.rises above
    · rw [evaluateLevels_rising above full] at rises
      exact absurd rises (lt_irrefl _)
  · by_cases below : e.hold x < r.condition.num
    · by_cases full : r.fall + 1 = e.fallPersistence
      · have highest := runs.highest_below below
        rw [LevelRec.highest_eq] at highest
        rw [evaluateLevels_fallen (Nat.not_lt.1 above) below full] at rises
        exact absurd (highest.trans rises) (lt_irrefl _)
      · rw [evaluateLevels_falling (Nat.not_lt.1 above) below full] at rises
        exact absurd rises (lt_irrefl _)
    · rw [evaluateLevels_steady (Nat.not_lt.1 above) (Nat.not_lt.1 below)] at rises
      exact absurd rises (lt_irrefl _)

/-- The level falls at the evaluation that ends a falling run alone (R60). -/
theorem LevelRec.StandsFor.run_of_fall (stands : r.StandsFor e es) (runs : r.Runs e)
    (falls : (Machine.evaluateLevels e x.1 x.2 r).condition.num < r.condition.num) :
    EndsInRun (es ++ [x]) e.fallPersistence fun v =>
      e.hold v < r.condition.num ∧ e.hold v ≤ (Machine.evaluateLevels e x.1 x.2 r).condition.num := by
  by_cases above : r.condition.num < e.pickup x
  · by_cases full : r.rise + 1 = e.risePersistence
    · have lowest := runs.lowest_above above
      rw [LevelRec.lowest_eq] at lowest
      rw [evaluateLevels_risen above full] at falls
      exact absurd (falls.trans lowest) (lt_irrefl _)
    · rw [evaluateLevels_rising above full] at falls
      exact absurd falls (lt_irrefl _)
  · by_cases below : e.hold x < r.condition.num
    · by_cases full : r.fall + 1 = e.fallPersistence
      · rw [evaluateLevels_fallen (Nat.not_lt.1 above) below full, ← full]
        exact stands.falls below
      · rw [evaluateLevels_falling (Nat.not_lt.1 above) below full] at falls
        exact absurd falls (lt_irrefl _)
    · rw [evaluateLevels_steady (Nat.not_lt.1 above) (Nat.not_lt.1 below)] at falls
      exact absurd falls (lt_irrefl _)

end Step

theorem evaluateRun_concat (e : XfEntry) (es : List (Bool × Nat)) (x : Bool × Nat) :
    evaluateRun e (es ++ [x]) = evaluateLevels e x.1 x.2 (evaluateRun e es) := List.foldl_concat ..

/-- Every run of evaluations from a fresh record stands behind the record it gives. -/
theorem evaluateRun_sound (e : XfEntry) (es : List (Bool × Nat)) :
    (evaluateRun e es).StandsFor e es ∧ (evaluateRun e es).Runs e := by
  induction es using List.reverseRecOn with
  | nil => exact ⟨⟨.none _ _, .none _ _⟩, .initial⟩
  | append_singleton es x ih =>
    obtain ⟨stands, runs⟩ := ih
    rw [evaluateRun_concat]
    exact ⟨stands.evaluateLevels, runs.evaluateLevels _ _⟩

/-- Settles O42: the runs behind the record give the first part; the second is the evaluation case by case. -/
theorem levelMovesOnlyAfterARun : Obligations.LevelMovesOnlyAfterARun := by
  refine ⟨fun e es x _ => ?_, fun e raised a r => ?_⟩
  · intro before after pickup hold
    obtain ⟨stands, runs⟩ := evaluateRun_sound e es
    have last : after = (evaluateLevels e x.1 x.2 (evaluateRun e es)).condition.num :=
      congrArg (fun r => r.condition.num) (evaluateRun_concat e es x)
    rw [last]
    exact ⟨stands.run_of_rise runs, stands.run_of_fall runs⟩
  · exact ⟨evaluateLevels_rising, evaluateLevels_risen, evaluateLevels_falling, evaluateLevels_fallen,
      evaluateLevels_steady⟩

end Sys2Proof.Machine

/-! PROOF. The restore completion (O58), stage by stage: the channels, the member map, the transformers, the station. -/

namespace Sys2Proof.Machine

/-! ### The channels taken up (R27) -/

/-- Channel `c`'s record once taken up, from the record `r` (R27). -/
def State.channelTakenUp (s : State) (c : Channel) (r : ChannelRec) : ChannelRec :=
  if (s.channelEntry c).inService then
    { ChannelRec.off with
      state := .settling, settle := 2 ^ (s.channelEntry c).shift + 4
      lostTimer := some ((s.channelEntry c).lostLimit * (3000 / s.setup.freq)) }
  else r

theorem takeUpChannel_eq (s : State) (c : Channel) :
    takeUpChannel s c = s.setChannel c (s.channelTakenUp c (s.channel c)) := by
  unfold takeUpChannel State.channelTakenUp
  split
  · rfl
  · exact (s.setChannel_self c).symm

theorem foldl_takeUpChannel (cs : List Channel) (s : State) :
    let u := cs.foldl takeUpChannel s
    u = { s with channels := u.channels } ∧
    ∀ c, u.channel c = if c ∈ cs then s.channelTakenUp c (s.channel c) else s.channel c := by
  induction cs generalizing s with
  | nil => exact ⟨rfl, fun c => by simp⟩
  | cons a cs ih =>
    obtain ⟨same, channel⟩ := ih (takeUpChannel s a)
    rw [takeUpChannel_eq] at same channel
    rw [List.foldl_cons, takeUpChannel_eq]
    dsimp only at same channel ⊢
    generalize cs.foldl takeUpChannel (s.setChannel a (s.channelTakenUp a (s.channel a))) = u at same channel
    refine ⟨same, fun c => ?_⟩
    have taken : ∀ r, (s.setChannel a (s.channelTakenUp a (s.channel a))).channelTakenUp c r = s.channelTakenUp c r :=
      fun _ => rfl
    have twice : s.channelTakenUp c (s.channelTakenUp c (s.channel c)) = s.channelTakenUp c (s.channel c) := by
      unfold State.channelTakenUp
      split <;> rfl
    rw [channel, taken, State.setChannel_channel]
    by_cases at' : a = c
    · subst at'
      simp [twice]
    · simp [at', Ne.symm at']

/-! ### The transformers taken up (R51, R52, R63, R77) -/

theorem waitSetOf_of_idle {s : State} (idle : ∀ c, (s.channel c).state.live = false) (x : Xf) :
    waitSetOf x s = SlotSet.empty := by
  have members : (fun i : Slot => match (s.xfEntry x).slots[i].channel with
      | none => false
      | some c => (s.channel c).state.live) = fun _ => false := by
    funext i
    split
    · rfl
    · exact idle _
  unfold waitSetOf
  exact (congrArg tabulate members).trans (by decide)

theorem Level.higher_quiet (l : Level) : Level.higher .quiet l = l := by
  cases l <;> rfl

/-- A transformer that was OFF comes up at the thermal level it kept. -/
theorem XfRec.takenUp_off (e : XfEntry) (theta : Nat) (thermal : Level) :
    (XfRec.offWith theta thermal).takenUp e SlotSet.empty =
      let theta' := if e.coefficient = 0 then 0 else theta
      let thermal' := if e.coefficient = 0 then Level.quiet else thermal
      if e.inService then
        { XfRec.offWith theta' thermal' with inService := true, reported := thermal', unack := thermal' == .alarm }
      else XfRec.offWith theta' thermal' := by
  have idled : (XfRec.offWith theta thermal).idled e =
      XfRec.offWith (if e.coefficient = 0 then 0 else theta) (if e.coefficient = 0 then Level.quiet else thermal) := by
    unfold XfRec.idled
    split <;> rfl
  unfold XfRec.takenUp
  rw [idled]
  dsimp only
  generalize (if e.coefficient = 0 then 0 else theta) = theta'
  generalize (if e.coefficient = 0 then Level.quiet else thermal) = thermal'
  refine if_congr Iff.rfl ?_ rfl
  have candidate : candidateLevel e.latch (XfRec.placed theta' thermal' SlotSet.empty) = thermal' := by
    rw [candidateLevel_of_clear _ rfl]
    exact Level.higher_quiet thermal'
  unfold XfRec.rederived
  show (XfRec.placed theta' thermal' SlotSet.empty).withReported e.latch
    (candidateLevel e.latch (XfRec.placed theta' thermal' SlotSet.empty)) = _
  rw [candidate]
  cases thermal' <;> rfl

theorem takeUpXf_alarmTrue {s : State} (true' : s.AlarmTrue) (x : Xf) : (takeUpXf x s).AlarmTrue := by
  have idled : (zeroIdleThermal x s).AlarmTrue := by
    rw [zeroIdleThermal_eq]
    refine true'.trans (anyAlarming_setXf s x _ ?_).symm
    unfold XfRec.idled
    split <;> rfl
  unfold takeUpXf
  dsimp only
  split
  · rfl
  · exact idled

/-! ### The member map (R32) -/

theorem placeOf_eq_none_iff (s : State) (c : Channel) :
    placeOf s c = none ↔ ∀ (x : Xf) (j : Slot), (s.xfEntry x).slots[j].channel ≠ some c := by
  simp [placeOf, XfEntry.slotOf, List.findSome?_eq_none_iff, List.find?_eq_none]

theorem placeOf_some {s : State} {c : Channel} {x : Xf} {j : Slot} (place : placeOf s c = some (x, j)) :
    (s.xfEntry x).slots[j].channel = some c := by
  obtain ⟨y, -, found⟩ := List.exists_of_findSome?_eq_some place
  obtain ⟨i, slot, same⟩ := Option.map_eq_some_iff.1 found
  obtain ⟨rfl, rfl⟩ := Prod.mk.inj same
  simpa using List.find?_some slot

/-! ### The restore completion (R180) -/

/-- The state once channels, member map and transformers are taken up, before the station's. -/
def State.takenUp (s : State) : State :=
  (List.finRange 16).foldl (fun u t => takeUpXf t u)
    (rebuildMemberMap ((List.finRange 40).foldl takeUpChannel { s with phase := .running, clock := Clock.initial }))

theorem restoreCompletes_of_restoring {s : State} (restoring : s.phase = .restoring) :
    restoreCompletes s = stationTakeUp s.takenUp := by
  unfold restoreCompletes State.takenUp
  rw [if_pos restoring]

/-- What the taking up makes of a state whose blocks hold their start values. -/
theorem State.takenUp_spec {s : State} (channels : ∀ c, s.channel c = ChannelRec.off)
    (xfs : ∀ x, s.xf x = XfRec.offWith (s.xf x).theta (s.xf x).thermal) (alarm : s.alarmOut = false) :
    s.takenUp = { s with
      phase := .running, clock := Clock.initial, channels := s.takenUp.channels, memberMap := s.takenUp.memberMap
      xfs := s.takenUp.xfs, alarmOut := s.takenUp.alarmOut } ∧
    (∀ c, s.takenUp.channel c = s.channelTakenUp c ChannelRec.off) ∧
    (∀ c : Channel, s.takenUp.memberMap[c] = placeOf s c) ∧
    (∀ x, s.takenUp.xf x = (XfRec.offWith (s.xf x).theta (s.xf x).thermal).takenUp (s.xfEntry x) SlotSet.empty) ∧
    s.takenUp.alarmOut = s.takenUp.anyAlarming := by
  obtain ⟨sameC, channelC⟩ := foldl_takeUpChannel (List.finRange 40) { s with phase := .running, clock := Clock.initial }
  have trueC : ((List.finRange 40).foldl takeUpChannel
      { s with phase := .running, clock := Clock.initial }).AlarmTrue := by
    dsimp only at sameC
    rw [sameC]
    exact alarm.trans (anyAlarming_of_off (s := s) fun x => by rw [xfs x]; rfl).symm
  unfold State.takenUp
  dsimp only at sameC channelC
  generalize (List.finRange 40).foldl takeUpChannel { s with phase := .running, clock := Clock.initial } = u at *
  obtain ⟨sameX, xfX⟩ := foldl_takeUpXf (List.finRange 16) (List.nodup_finRange 16) (rebuildMemberMap u)
  have trueX : ((List.finRange 16).foldl (fun u t => takeUpXf t u) (rebuildMemberMap u)).AlarmTrue :=
    KeptByCommands.foldl (P := State.AlarmTrue) (fun u t => takeUpXf t u) (fun _ x law => takeUpXf_alarmTrue law x) _ trueC
  generalize (List.finRange 16).foldl (fun u t => takeUpXf t u) (rebuildMemberMap u) = v at *
  have channel : ∀ c, u.channel c = s.channelTakenUp c ChannelRec.off := fun c => by
    rw [channelC, if_pos (List.mem_finRange c)]
    exact congrArg (s.channelTakenUp c) (channels c)
  have idle : ∀ c, ((rebuildMemberMap u).channel c).state.live = false := fun c => by
    show (u.channel c).state.live = false
    rw [channel]
    unfold State.channelTakenUp
    split <;> rfl
  refine ⟨?_, fun c => ?_, fun c => ?_, fun x => ?_, trueX⟩
  · rw [sameX]
    unfold rebuildMemberMap
    rw [sameC]
  · rw [sameX]
    exact channel c
  · rw [sameX]
    refine (tabulate_get (placeOf u) c).trans ?_
    rw [sameC]
    rfl
  · rw [xfX, if_pos (List.mem_finRange x), waitSetOf_of_idle idle, ← xfs x]
    unfold rebuildMemberMap
    rw [sameC]
    rfl

/-- Settles O58: the taking up as stated above, and then the quorum on the count of reported levels. -/
theorem restoreCompletionTakesUpTheTables : Obligations.RestoreCompletionTakesUpTheTables := by
  intro s
  refine ⟨fun other => congrArg Host.Outcome.next (if_neg other), fun restoring channels xfs station alarm => ?_,
    quorumCondition_iff⟩
  obtain ⟨same, channel, map, xf, true'⟩ := State.takenUp_spec channels xfs alarm
  refine ⟨_, congrArg Host.Outcome.next (restoreCompletes_of_restoring restoring), ?_⟩
  generalize s.takenUp = u at *
  have counted : (stationTakeUp u).station.alertCount = u.countedXfs :=
    (formQuorum_met (u.setStation { u.station with alertCount := u.countedXfs })).2
  have initial : u.station = StationRec.initial := by rw [same]; exact station
  have setup : u.setup = s.setup := by rw [same]
  have calm : quorumCondition s.setup.quorum u.countedXfs = false →
      stationTakeUp u = u.setStation { u.station with alertCount := u.countedXfs } := fun unmet => by
    refine formQuorum_of_same (s := u.setStation { u.station with alertCount := u.countedXfs }) ?_
    show quorumCondition u.setup.quorum u.countedXfs = u.station.quorumMet
    rw [setup, unmet, initial]
    rfl
  have storm : quorumCondition s.setup.quorum u.countedXfs = true →
      stationTakeUp u = takeChange .station 0 2 { u with
        station := { u.station with
          alertCount := u.countedXfs, quorumMet := true, state := .storm, watchRun := 0, holdTimer := none }
        stormOut := true } := fun met => by
    have enters := formQuorum_enters_storm (s := u.setStation { u.station with alertCount := u.countedXfs })
      (by rw [State.setStation_setup, setup]; exact met)
      (show u.station.quorumMet = false by rw [initial]; rfl) (show u.station.state ≠ .storm by rw [initial]; nofun)
    refine Eq.trans enters ?_
    show takeChange .station u.station.state.rank _ _ = _
    rw [initial]
    rfl
  have kept : stationTakeUp u = { u with
      station := (stationTakeUp u).station, stormOut := (stationTakeUp u).stormOut
      queue := (stationTakeUp u).queue } := formQuorum_eq (u.setStation { u.station with alertCount := u.countedXfs })
  have records : (stationTakeUp u).xfs = u.xfs := by rw [kept]
  rw [counted]
  refine ⟨?_, ?_, fun c => ?_, fun x => ?_, fun c => ?_, fun c x j place => ?_, ?_, ?_, fun unmet => ?_,
    fun met => ?_, ?_⟩
  · rw [kept, same]
  · rw [kept, same]
    rfl
  · rw [kept]
    exact channel c
  · rw [State.xf_congr records, xf, XfRec.takenUp_off]
  · rw [kept]
    show u.memberMap[c] = none ↔ _
    rw [map]
    exact placeOf_eq_none_iff s c
  · rw [kept] at place
    exact placeOf_some ((map c).symm.trans place)
  · have line : (stationTakeUp u).alarmOut = (stationTakeUp u).anyAlarming := by
      rw [kept]
      exact true'
    rw [line]
    exact anyAlarming_iff _
  · unfold State.countedXfs
    rw [records]
  · rw [calm unmet]
    refine ⟨?_, ?_⟩
    · show u.station.state = _
      rw [initial]
      rfl
    · show u.queue = _
      rw [same]
  · rw [storm met]
    refine ⟨rfl, rfl, rfl, ?_⟩
    unfold takeChange
    rw [same]
    rfl
  · rw [kept, same]
    exact ⟨rfl, rfl, rfl, rfl, rfl, rfl, rfl, rfl, rfl, rfl, rfl, rfl⟩

end Sys2Proof.Machine

/-! PROOF. The completion of a store write (O54): what every kind leaves, the answer, and then the six kinds. -/

namespace Sys2Proof.Machine

/-! ### What every kind leaves, and the answer -/

theorem sameBeside_keptByBlocks (s : State) : KeptByBlocks (fun u => s.SameBeside u ∧ u.write = none) where
  setChannel _ _ _ := id
  setXf _ _ _ _ := id
  alarm _ _ _ := id
  setStation _ _ _ := id
  enter _ _ := id
  write _ _ := id
  takeChange _ _ _ _ _ := id
  report u b c x _ same := by rw [report_eq]; exact same

theorem written_beside (w : StoreWrite) (s : State) :
    s.SameBeside (takeWritten w (finishWrite w s)) ∧ (takeWritten w (finishWrite w s)).write = none :=
  (sameBeside_keptByBlocks s).takeWritten (fun _ _ => id) (fun _ _ _ => id) (fun _ _ _ => id) (fun _ _ => id) w
    ⟨⟨rfl, rfl, rfl, rfl, rfl, rfl, rfl, rfl⟩, rfl⟩

theorem exec_storeWriteCompletion {s : State} {w : StoreWrite} {rq : Request} (writing : s.write = some w)
    (pending : s.frames.response = .pending rq) :
    exec .storeWriteCompletion s =
      .next ((takeWritten w (finishWrite w s)).answered rq .done 0
        (writtenData w (takeWritten w (finishWrite w s)))) := by
  have frames : (takeWritten w (finishWrite w s)).frames = s.frames := (written_beside w s).1.2.2.1
  refine congrArg Host.Outcome.next ?_
  unfold writeCompletes
  rw [writing]
  show answerWrite w (takeWritten w (finishWrite w s)) = _
  generalize takeWritten w (finishWrite w s) = u at frames
  have pending' : u.frames.response = .pending rq := by rw [frames, pending]
  unfold answerWrite
  rw [pending']
  exact arbiter_respond_of_pending pending' rq .done 0 _

/-! ### Service of a channel (R11, R12) -/

/-- The clearing beside a record: the rates withdrawn first or last, the record's own per-second fields cleared. -/
theorem changeChannelState_afterClear (c : Channel) (new : ChannelState) (s : State) (r : ChannelRec)
    (stale : Option Nat) :
    changeChannelState c new ((clearSecond c (s.setChannel c r)).mapChannel c fun q => { q with staleTimer := stale }) =
      channelNotice c (takeChange (.channel c) r.state.rank new.rank
        (clearSecond c (s.setChannel c { r with staleTimer := stale, state := new }))) := by
  rw [clearSecond_setChannel, State.mapChannel_setChannel, changeChannelState_setChannel, clearSecond_setChannel]

/-- An entry to SETTLING from another state (R10, R11, R17). -/
theorem settleAgain_of_ne {c : Channel} {s : State} (other : (s.channel c).state ≠ .settling) :
    settleAgain c s =
      channelNotice c (takeChange (.channel c) (s.channel c).state.rank ChannelState.settling.rank
        (clearSecond c (s.setChannel c
          { (s.channel c).reseeded (s.channelEntry c).shift with staleTimer := none, state := .settling }))) :=
  (if_neg other).trans (changeChannelState_afterClear ..)

theorem settleAgain_of_settling {c : Channel} {s : State} (same : (s.channel c).state = .settling) :
    settleAgain c s = clearSecond c (s.setChannel c ((s.channel c).reseeded (s.channelEntry c).shift)) :=
  if_pos same

theorem WorksOnChannel.settleAgain (c : Channel) (s : State) : WorksOnChannel c s (settleAgain c s) := by
  by_cases same : (s.channel c).state = .settling
  · rw [settleAgain_of_settling same]
    exact (setChannel s _).trans (clearSecond _)
  · rw [settleAgain_of_ne same]
    exact (((setChannel s _).trans (clearSecond _)).trans (takeChange _ _ _ _)).trans (channelNotice _)

theorem clearSecond_state (c : Channel) (s : State) : ((clearSecond c s).channel c).state = (s.channel c).state := by
  unfold clearSecond
  split
  · show ((s.setChannel c _).channel c).state = _
    rw [State.setChannel_channel_same]
  · rfl

theorem clearSecond_setOver (c : Channel) (s : State) (r : ChannelRec) :
    (clearSecond c s).setChannel c r = { clearSecond c s with channels := s.channels.set c r } := by
  unfold clearSecond
  split
  · exact congrArg (withdrawalNotice c) (State.setChannel_setChannel s c _ r)
  · rfl

theorem removeChannel_eq (c : Channel) (s : State) :
    removeChannel c s =
      channelNotice c (takeChange (.channel c) (s.channel c).state.rank ChannelState.off.rank
        { clearSecond c s with channels := s.channels.set c ChannelRec.off }) := by
  unfold removeChannel
  rw [State.mapChannel_eq, changeChannelState_setChannel, ← clearSecond_setOver, clearSecond_state]
  rfl

theorem WorksOnChannel.removeChannel (c : Channel) (s : State) : WorksOnChannel c s (removeChannel c s) := by
  rw [removeChannel_eq, ← clearSecond_setOver]
  exact (((clearSecond s).trans (setChannel _ _)).trans (takeChange _ _ _ _)).trans (channelNotice _)

/-! ### The six kinds -/

/-- The quorum formed anew from a new setup record (R104, R172). -/
theorem formQuorum_newSetup (p : State) :
    let met := p.setup.quorum ≠ 0 ∧ p.setup.quorum ≤ p.station.alertCount
    let rank := match p.station.state with | .calm => 0 | .watch => 1 | .storm => 2
    ((met ↔ p.station.quorumMet = true) → formQuorum p = p) ∧
    (met → p.station.quorumMet = false → p.station.state ≠ .storm → formQuorum p =
      takeChange .station rank 2
        { p with
          station := { p.station with state := .storm, watchRun := 0, holdTimer := none, quorumMet := true }
          stormOut := true }) ∧
    (met → p.station.quorumMet = false → p.station.state = .storm →
      formQuorum p = { p with station := { p.station with holdTimer := none, quorumMet := true } }) ∧
    (¬met → p.station.quorumMet = true → formQuorum p =
      { p with station := { p.station with holdTimer := some (p.setup.holdTime * 3000), quorumMet := false } }) := by
  intro met rank
  have condition : quorumCondition p.setup.quorum p.station.alertCount = true ↔ met := quorumCondition_iff _ _
  refine ⟨fun same => ?_, fun is unmet below => ?_, fun is unmet storm => ?_, fun ends was => ?_⟩
  · exact formQuorum_of_same (Bool.eq_iff_iff.2 (condition.trans same))
  · have ranked : p.station.state.rank = rank := by
      show _ = match p.station.state with | .calm => 0 | .watch => 1 | .storm => 2
      cases p.station.state <;> rfl
    rw [← ranked]
    exact formQuorum_enters_storm (condition.2 is) unmet below
  · exact formQuorum_in_storm (condition.2 is) unmet storm
  · exact formQuorum_ends (Bool.eq_false_iff.2 (mt condition.1 ends)) was

theorem takeWritten_setup_station (e : Setup) (s : State) :
    (takeWritten (.setup e) s).station.quorumMet = quorumCondition e.quorum s.station.alertCount :=
  (formQuorum_met (s.setSetup { e with guardSpan := s.setup.guardSpan, lockFlag := s.setup.lockFlag })).1

theorem takeWritten_setup_eq (e : Setup) (s : State) :
    takeWritten (.setup e) s =
      { s with
        setup := { e with guardSpan := s.setup.guardSpan, lockFlag := s.setup.lockFlag }
        station := (takeWritten (.setup e) s).station
        stormOut := (takeWritten (.setup e) s).stormOut
        queue := (takeWritten (.setup e) s).queue } :=
  formQuorum_eq (s.setSetup { e with guardSpan := s.setup.guardSpan, lockFlag := s.setup.lockFlag })

/-- A transformer entry written: its entry, the member map, and Θ and T where the coefficient is 0 (R32, R80, R173). -/
theorem takeWritten_xfEntry_eq (x : Xf) (e : XfEntry) (s : State) :
    takeWritten (.xfEntry x e) s =
      (rebuildMemberMap (s.setXfEntry x e)).setXf x
        (if e.coefficient = 0 then { s.xf x with theta := 0, thermal := .quiet } else s.xf x) := by
  show zeroIdleThermal x (rebuildMemberMap (s.setXfEntry x e)) = _
  have entry : (rebuildMemberMap (s.setXfEntry x e)).xfEntry x = e := State.setXfEntry_xfEntry_same ..
  rw [zeroIdleThermal_eq, entry]
  rfl

theorem rebuildMemberMap_places (s : State) (c : Channel) :
    ((rebuildMemberMap s).memberMap[c] = none ↔ ∀ (o : Xf) (j : Slot), (s.xfEntry o).slots[j].channel ≠ some c) ∧
    (∀ (o : Xf) (j : Slot), (rebuildMemberMap s).memberMap[c] = some (o, j) →
      (s.xfEntry o).slots[j].channel = some c) := by
  have place : (rebuildMemberMap s).memberMap[c] = placeOf s c := tabulate_get (placeOf s) c
  rw [place]
  exact ⟨placeOf_eq_none_iff s c, fun o j => placeOf_some⟩

theorem takeWritten_channelService_eq (c : Channel) (e : ChannelEntry) (s : State) :
    takeWritten (.channelService c e) s =
      if e.inService then placeChannel c (s.setChannelEntry c { s.channelEntry c with inService := e.inService })
      else removeChannel c (s.setChannelEntry c { s.channelEntry c with inService := e.inService }) := by
  cases on : e.inService <;> simp only [takeWritten, on] <;> rfl

theorem takeWritten_xfService_eq (x : Xf) (e : XfEntry) (s : State) :
    takeWritten (.xfService x e) s =
      if e.inService then placeXf x (s.setXfEntry x { s.xfEntry x with inService := e.inService })
      else removeXf x (s.setXfEntry x { s.xfEntry x with inService := e.inService }) := by
  cases on : e.inService <;> simp only [takeWritten, on] <;> rfl

/-- A channel that was OFF placed in service (R11). -/
theorem placeChannel_of_off {c : Channel} {s : State} (off : (s.channel c).state = .off) :
    placeChannel c s =
      channelNotice c (takeChange (.channel c) ChannelState.off.rank ChannelState.settling.rank
        (clearSecond c (s.setChannel c
          { s.channel c with
            state := .settling, y := 0, mean := 0, lastCycle := none, clipped := false, degraded := 0
            good := 0, settle := 2 ^ (s.channelEntry c).shift + 4, staleTimer := none
            lostTimer := some ((s.channelEntry c).lostLimit * (3000 / s.setup.freq)) }))) := by
  unfold placeChannel
  dsimp only
  have record : ((s.mapChannel c fun r => { r with lostTimer := s.fullLost c }).channel c) =
      { s.channel c with lostTimer := s.fullLost c } := State.setChannel_channel_same ..
  rw [settleAgain_of_ne (by rw [record]; exact fun h => ChannelState.noConfusion (off.symm.trans h)), record,
    State.mapChannel_eq, State.setChannel_setChannel]
  show channelNotice c (takeChange _ (s.channel c).state.rank _ _) = _
  rw [off]
  rfl

theorem waitSetOf_iff (x : Xf) (s : State) (j : Slot) :
    (waitSetOf x s)[j] = true ↔ ∃ c : Channel, (s.xfEntry x).slots[j].channel = some c ∧
      ((s.channel c).state = .valid ∨ (s.channel c).state = .suspect) := by
  unfold waitSetOf
  rw [tabulate_get]
  cases (s.xfEntry x).slots[j].channel with
  | none => simp
  | some d => simp [ChannelState.live_iff]

theorem levelNotice_around (old new : Level) (s : State) :
    (levelNotice old new s).store = s.store ∧ (levelNotice old new s).xfEntries = s.xfEntries ∧
    (levelNotice old new s).channels = s.channels ∧ (levelNotice old new s).setup = s.setup ∧
    (levelNotice old new s).channelEntries = s.channelEntries ∧ (levelNotice old new s).banks = s.banks ∧
    (levelNotice old new s).memberMap = s.memberMap ∧ (levelNotice old new s).recorder = s.recorder := by
  rw [levelNotice_eq]
  exact ⟨rfl, rfl, rfl, rfl, rfl, rfl, rfl, rfl⟩

/-- A channel's service change, beside the state with its entry written. -/
theorem channelService_spec (c : Channel) (e : ChannelEntry) (s : State) {u : State}
    (eq : u = if e.inService then placeChannel c (s.setChannelEntry c { s.channelEntry c with inService := e.inService })
      else removeChannel c (s.setChannelEntry c { s.channelEntry c with inService := e.inService })) :
    (∀ o, o ≠ c → u.channel o = s.channel o) ∧
    (s.setChannelEntry c { s.channelEntry c with inService := e.inService }).SameAround u ∧
    (e.inService = true → (s.channel c).state = .off → u =
      channelNotice c (takeChange (.channel c) ChannelState.off.rank ChannelState.settling.rank
        (clearSecond c ((s.setChannelEntry c { s.channelEntry c with inService := e.inService }).setChannel c
          { s.channel c with
            state := .settling, y := 0, mean := 0, lastCycle := none, clipped := false, degraded := 0
            good := 0, settle := 2 ^ (s.channelEntry c).shift + 4, staleTimer := none
            lostTimer := some ((s.channelEntry c).lostLimit * (3000 / s.setup.freq)) })))) ∧
    (e.inService = false → u =
      channelNotice c (takeChange (.channel c) (s.channel c).state.rank ChannelState.off.rank
        { clearSecond c (s.setChannelEntry c { s.channelEntry c with inService := e.inService }) with
          channels := s.channels.set c ChannelRec.off })) := by
  have works : WorksOnChannel c (s.setChannelEntry c { s.channelEntry c with inService := e.inService }) u := by
    rw [eq]
    split
    · exact (WorksOnChannel.setChannel _ _).trans (.settleAgain c _)
    · exact .removeChannel c _
  refine ⟨works.1, works.2.2, fun on off => ?_, fun off => ?_⟩
  · rw [eq, if_pos on]
    refine (placeChannel_of_off (s := s.setChannelEntry c _) off).trans ?_
    rw [State.setChannelEntry_channelEntry_same]
    rfl
  · rw [eq, if_neg (by rw [off]; nofun), removeChannel_eq]
    rfl

/-- The fields of a record once the per-second fields are cleared beside it. -/
theorem serviceRecord_spec (c : Channel) (s : State) (r : ChannelRec) :
    ((clearSecond c (s.setChannel c r)).channel c).state = r.state ∧
    ((clearSecond c (s.setChannel c r)).channel c).y = r.y ∧
    ((clearSecond c (s.setChannel c r)).channel c).mean = r.mean ∧
    ((clearSecond c (s.setChannel c r)).channel c).lastCycle = r.lastCycle ∧
    ((clearSecond c (s.setChannel c r)).channel c).settle = r.settle ∧
    ((clearSecond c (s.setChannel c r)).channel c).degraded = r.degraded ∧
    ((clearSecond c (s.setChannel c r)).channel c).good = r.good ∧
    ((clearSecond c (s.setChannel c r)).channel c).staleTimer = r.staleTimer ∧
    ((clearSecond c (s.setChannel c r)).channel c).lostTimer = r.lostTimer := by
  rw [clearSecond_setChannel, State.setChannel_channel_same]
  exact ⟨rfl, rfl, rfl, rfl, rfl, rfl, rfl, rfl, rfl⟩

theorem XfRec.placed_fields {r : XfRec} {theta : Nat} {thermal : Level} {w : SlotSet}
    (h : r = XfRec.placed theta thermal w) :
    r.inService = true ∧ r.quality = .noData ∧ r.pendingCycle = none ∧ r.lastCompleted = none ∧ r.reported = .quiet ∧
    r.unack = false ∧ r.levels.condition = .quiet ∧ r.secondCount = 0 ∧ r.theta = theta ∧ r.thermal = thermal := by
  rw [h]
  exact ⟨rfl, rfl, rfl, rfl, rfl, rfl, rfl, rfl, rfl, rfl⟩

theorem XfRec.offWith_fields {r : XfRec} {theta : Nat} {thermal : Level} (h : r = XfRec.offWith theta thermal) :
    r.inService = false ∧ r.quality = .noData ∧ r.pendingCycle = none ∧ r.lastCompleted = none ∧ r.reported = .quiet ∧
    r.unack = false ∧ r.levels.condition = .quiet ∧ r.secondCount = 0 ∧ r.theta = theta ∧ r.thermal = thermal := by
  rw [h]
  exact ⟨rfl, rfl, rfl, rfl, rfl, rfl, rfl, rfl, rfl, rfl⟩

/-- A transformer's service change, beside the state with its entry written. -/
theorem xfService_spec (x : Xf) (e : XfEntry) (s : State) {u : State}
    (eq : u = if e.inService then placeXf x (s.setXfEntry x { s.xfEntry x with inService := e.inService })
      else removeXf x (s.setXfEntry x { s.xfEntry x with inService := e.inService })) :
    (e.inService = true →
      u = levelNotice .quiet .quiet (takeChange (.level x) 0 1 (refreshAlarmOut
        ((s.setXfEntry x { s.xfEntry x with inService := e.inService }).setXf x
          (XfRec.placed 0 .quiet (u.xf x).waitSet)))) ∧
      u.xf x = XfRec.placed 0 .quiet (u.xf x).waitSet ∧
      ∀ j : Slot, (u.xf x).waitSet[j] = true ↔ ∃ c : Channel, (s.xfEntry x).slots[j].channel = some c ∧
        ((s.channel c).state = .valid ∨ (s.channel c).state = .suspect)) ∧
    (e.inService = false →
      u = levelNotice (s.xf x).reported .quiet (takeChange (.level x) ((s.xf x).reported.num + 1) 0 (refreshAlarmOut
        ((s.setXfEntry x { s.xfEntry x with inService := e.inService }).setXf x
          (XfRec.offWith (s.xf x).theta (s.xf x).thermal)))) ∧
      u.xf x = XfRec.offWith (s.xf x).theta (s.xf x).thermal) ∧
    (∀ o, o ≠ x → u.xf o = s.xf o) ∧ u.store = s.store ∧
    u.xfEntries = s.xfEntries.set x { s.xfEntry x with inService := e.inService } ∧ u.channels = s.channels ∧
    u.setup = s.setup ∧ u.channelEntries = s.channelEntries ∧ u.banks = s.banks ∧ u.memberMap = s.memberMap ∧
    u.recorder = s.recorder := by
  generalize written : s.setXfEntry x { s.xfEntry x with inService := e.inService } = b at eq ⊢
  have slots : ∀ j : Slot, (b.xfEntry x).slots[j] = (s.xfEntry x).slots[j] := fun j => by
    rw [← written, State.setXfEntry_xfEntry_same]
  have others : ∀ o, o ≠ x → u.xf o = s.xf o := fun o ho => by
    rw [eq]
    split
    · rw [placeXf_xf, if_neg (Ne.symm ho), ← written]
      rfl
    · rw [removeXf_xf, if_neg (Ne.symm ho), ← written]
      rfl
  refine ⟨fun on => ?_, fun off => ?_, others, ?_⟩
  · rw [if_pos on] at eq
    have record : u.xf x = XfRec.placed 0 .quiet (waitSetOf x b) := by rw [eq, placeXf_xf, if_pos rfl]
    have wait : (u.xf x).waitSet = waitSetOf x b := congrArg XfRec.waitSet record
    refine ⟨?_, record.trans (congrArg _ wait.symm), fun j => ?_⟩
    · rw [wait]
      exact eq
    · rw [wait, waitSetOf_iff, slots, ← written]
      rfl
  · rw [if_neg (by rw [off]; nofun)] at eq
    refine ⟨?_, ?_⟩
    · rw [eq, ← written]
      rfl
    · rw [eq, removeXf_xf, if_pos rfl, ← written]
      rfl
  · have around : u.store = b.store ∧ u.xfEntries = b.xfEntries ∧ u.channels = b.channels ∧ u.setup = b.setup ∧
        u.channelEntries = b.channelEntries ∧ u.banks = b.banks ∧ u.memberMap = b.memberMap ∧
        u.recorder = b.recorder := by
      rw [eq]
      split
      · exact levelNotice_around _ _ (takeChange _ _ _ (refreshAlarmOut (b.setXf x _)))
      · exact levelNotice_around _ _ (takeChange _ _ _ (refreshAlarmOut (b.setXf x _)))
    rw [← written] at around
    exact around

/-- Settles O54: the kinds of write, each by what its taking makes of the state with the image stored. -/
theorem writeCompletionTakesTheNewValues : Obligations.WriteCompletionTakesTheNewValues := by
  intro s rq
  refine ⟨fun idle => ?_, fun w writing pending => ?_⟩
  · refine congrArg Host.Outcome.next ?_
    unfold writeCompletes
    rw [idle]
  have answer := exec_storeWriteCompletion writing pending
  obtain ⟨beside, done⟩ := written_beside w s
  refine ⟨takeWritten w (finishWrite w s), done, beside, ?_⟩
  cases w with
  | setup e =>
    have kept := takeWritten_setup_eq e (finishWrite (.setup e) s)
    have station := takeWritten_setup_station e (finishWrite (.setup e) s)
    have formed := formQuorum_newSetup ((finishWrite (.setup e) s).setSetup
      { e with guardSpan := s.setup.guardSpan, lockFlag := s.setup.lockFlag })
    have same : formQuorum ((finishWrite (.setup e) s).setSetup
      { e with guardSpan := s.setup.guardSpan, lockFlag := s.setup.lockFlag }) =
        takeWritten (.setup e) (finishWrite (.setup e) s) := rfl
    rw [same] at formed
    refine ⟨?_, ?_, station, formed, ?_, ?_, ?_, ?_, ?_, ?_, ?_, answer⟩
    all_goals
      rw [kept]
      rfl
  | guardSpan e => exact ⟨rfl, answer⟩
  | channelEntry c e => exact ⟨rfl, answer⟩
  | xfEntry x e =>
    have eq := takeWritten_xfEntry_eq x e (finishWrite (.xfEntry x e) s)
    have places := rebuildMemberMap_places ((finishWrite (.xfEntry x e) s).setXfEntry x e)
    have record : (takeWritten (.xfEntry x e) (finishWrite (.xfEntry x e) s)).xf x =
        if e.coefficient = 0 then { s.xf x with theta := 0, thermal := .quiet } else s.xf x := by
      rw [eq]
      exact State.setXf_xf_same ..
    have others : ∀ o : Xf, o ≠ x → (takeWritten (.xfEntry x e) (finishWrite (.xfEntry x e) s)).xf o = s.xf o :=
      fun o ho => by
        rw [eq]
        exact State.setXf_xf_other _ _ _ _ ho
    rw [eq] at answer record others ⊢
    exact ⟨rfl, rfl, fun c => (places c).1, fun c => (places c).2, record, others, rfl, rfl, rfl, rfl, rfl, rfl, rfl,
      answer⟩
  | channelService c e =>
    have eq := takeWritten_channelService_eq c e (finishWrite (.channelService c e) s)
    generalize takeWritten (.channelService c e) (finishWrite (.channelService c e) s) = u at eq answer
    obtain ⟨others, around, placed, removed⟩ := channelService_spec c e (finishWrite (.channelService c e) s) eq
    obtain ⟨-, -, setup, entries, xfEntries, map, -, -, -, -, store, -⟩ := around
    refine ⟨store, entries, fun on off _ => ?_, ⟨placed, removed⟩, fun off => ?_, others, setup, xfEntries, map, answer⟩
    · rw [placed on off, channelNotice_channel]
      exact serviceRecord_spec ..
    · rw [removed off, channelNotice_channel]
      exact State.setChannel_channel_same (finishWrite (.channelService c e) s) c ChannelRec.off
  | xfService x e =>
    have eq := takeWritten_xfService_eq x e (finishWrite (.xfService x e) s)
    generalize takeWritten (.xfService x e) (finishWrite (.xfService x e) s) = u at eq answer
    obtain ⟨placed, removed, others, store, entries, channels, setup, channelEntries, banks, map, recorder⟩ :=
      xfService_spec x e (finishWrite (.xfService x e) s) eq
    obtain on | off := Bool.eq_false_or_eq_true e.inService
    · obtain ⟨is, record, wait⟩ := placed on
      obtain ⟨inService, quality, pending, last, reported, unack, condition, count, theta, thermal⟩ :=
        XfRec.placed_fields record
      exact ⟨store, entries, inService.trans on.symm, quality, pending, last, reported, unack, condition, count,
        fun _ => ⟨theta, thermal, wait⟩, fun off => Bool.noConfusion (on.symm.trans off),
        ⟨fun _ => is, fun off => Bool.noConfusion (on.symm.trans off)⟩,
        others, channels, setup, channelEntries, banks, map, recorder, answer⟩
    · obtain ⟨is, record⟩ := removed off
      obtain ⟨inService, quality, pending, last, reported, unack, condition, count, theta, thermal⟩ :=
        XfRec.offWith_fields record
      exact ⟨store, entries, inService.trans off.symm, quality, pending, last, reported, unack, condition, count,
        fun on => Bool.noConfusion (off.symm.trans on), fun _ => ⟨theta, thermal⟩,
        ⟨fun on => Bool.noConfusion (off.symm.trans on), fun _ => is⟩,
        others, channels, setup, channelEntries, banks, map, recorder, answer⟩

end Sys2Proof.Machine

/-! PROOF. The examination of a cycle block (O34): its inputs in turn, each as a block of its own would be. -/

namespace Sys2Proof.Machine

/-! ### The bytes of a block (R8, R183) -/

theorem toInt_ofNat_16 {v : Nat} (bound : v < 65536) :
    (BitVec.ofNat 16 v).toInt = if v < 32768 then (v : Int) else (v : Int) - 65536 := by
  rw [BitVec.toInt_eq_toNat_cond, BitVec.toNat_ofNat, Nat.mod_eq_of_lt (by omega)]
  split_ifs <;> omega

theorem s16_eq (bs : List Byte) (i : Nat) :
    s16 bs i = if u16 bs i < 32768 then (u16 bs i : Int) else (u16 bs i : Int) - 65536 := toInt_ofNat_16 (u16_lt bs i)

theorem cycleDistance_eq (p c : Cycle) :
    cycleDistance p c = if (c.toNat + 65536 - p.toNat) % 65536 < 32768 then
      (((c.toNat + 65536 - p.toNat) % 65536 : Nat) : Int)
      else (((c.toNat + 65536 - p.toNat) % 65536 : Nat) : Int) - 65536 := by
  have low := p.isLt
  have number : (c - p).toNat = (c.toNat + 65536 - p.toNat) % 65536 := by
    rw [BitVec.toNat_sub]
    congr 1
    omega
  unfold cycleDistance
  rw [BitVec.toInt_eq_toNat_cond, number]
  split_ifs <;> omega

/-! ### One input as a block of its own (R5) -/

/-- The block that carries input `i` of a body alone. -/
def aloneBlock (body : List Byte) (i : Nat) : List Byte := body.take 4 ++ [1] ++ (body.drop (5 + 65 * i)).take 65

section Alone

variable {body : List Byte} {i : Nat}

theorem aloneBlock_length (long : 5 + 65 * (i + 1) ≤ body.length) : (aloneBlock body i).length = 70 := by
  unfold aloneBlock
  rw [List.length_append, List.length_append, List.length_take, List.length_take, List.length_drop, List.length_singleton]
  omega

theorem aloneBlock_u8_head (long : 5 ≤ body.length) {j : Nat} (head : j < 4) : u8 (aloneBlock body i) j = u8 body j := by
  have inside : j < (body.take 4).length := by rw [List.length_take]; omega
  unfold aloneBlock u8
  rw [List.append_assoc, List.getD_append _ _ _ _ inside, List.getD_eq_getElem?_getD, List.getElem?_take_of_lt head,
    ← List.getD_eq_getElem?_getD]

theorem aloneBlock_u8_count (long : 5 ≤ body.length) : u8 (aloneBlock body i) 4 = 1 := by
  have four : (body.take 4).length = 4 := by rw [List.length_take]; omega
  unfold aloneBlock u8
  rw [List.append_assoc, List.getD_append_right _ _ _ _ (by omega), four]
  rfl

theorem aloneBlock_u8_input (long : 5 ≤ body.length) {j : Nat} (input : j < 65) :
    u8 (aloneBlock body i) (5 + j) = u8 body (5 + 65 * i + j) := by
  have five : (body.take 4 ++ [1]).length = 5 := by
    rw [List.length_append, List.length_take, List.length_singleton]
    omega
  unfold aloneBlock u8
  rw [List.getD_append_right _ _ _ _ (by omega), five, Nat.add_sub_cancel_left, List.getD_eq_getElem?_getD,
    List.getD_eq_getElem?_getD, List.getElem?_take_of_lt input, List.getElem?_drop]

theorem aloneBlock_u16_input (long : 5 ≤ body.length) {j : Nat} (input : j < 64) :
    u16 (aloneBlock body i) (5 + j) = u16 body (5 + 65 * i + j) := by
  unfold u16
  rw [aloneBlock_u8_input long (by omega), show 5 + j + 1 = 5 + (j + 1) from rfl, aloneBlock_u8_input long (by omega)]
  rfl

theorem aloneBlock_u16_head (long : 5 ≤ body.length) {j : Nat} (head : j < 3) :
    u16 (aloneBlock body i) j = u16 body j := by
  unfold u16
  rw [aloneBlock_u8_head long (by omega), aloneBlock_u8_head long (by omega)]

theorem aloneBlock_inputNumber (long : 5 ≤ body.length) : inputNumber (aloneBlock body i) 0 = inputNumber body i :=
  aloneBlock_u8_input long (j := 0) (by omega)

theorem aloneBlock_inputSamples (long : 5 ≤ body.length) : inputSamples (aloneBlock body i) 0 = inputSamples body i := by
  refine List.map_congr_left fun k hk => ?_
  have bound := List.mem_range.1 hk
  have word := aloneBlock_u16_input (i := i) long (j := 1 + 2 * k) (by omega)
  have left : 6 + 65 * 0 + 2 * k = 5 + (1 + 2 * k) := by omega
  have right : 6 + 65 * i + 2 * k = 5 + 65 * i + (1 + 2 * k) := by omega
  unfold s16
  rw [left, right, word]

theorem takeBlockInput_alone (long : 5 ≤ body.length) (v : State) :
    takeBlockInput (aloneBlock body i) v 0 = takeBlockInput body v i := by
  unfold takeBlockInput
  rw [aloneBlock_u16_head long (by omega), aloneBlock_u16_head long (by omega), aloneBlock_inputNumber long,
    aloneBlock_inputSamples long]

end Alone

/-! ### The examination (R5, R6) -/

theorem blockWellFormed_iff (body : List Byte) :
    blockWellFormed body = true ↔
      5 ≤ body.length ∧ 1 ≤ u8 body 4 ∧ u8 body 4 ≤ 8 ∧ body.length = 5 + 65 * u8 body 4 := decide_eq_true_iff

theorem examineBlock_of_wellFormed {body : List Byte} {s : State} (running : s.phase = .running)
    (wellFormed : 1 ≤ u8 body 4 ∧ u8 body 4 ≤ 8 ∧ body.length = 5 + 65 * u8 body 4) :
    examineBlock body s = (List.range (u8 body 4)).foldl (takeBlockInput body) s := by
  unfold examineBlock
  rw [if_pos running, if_pos ((blockWellFormed_iff body).2 ⟨by omega, wellFormed⟩)]

theorem examineBlock_of_one {body : List Byte} {s : State} (running : s.phase = .running) (length : body.length = 70)
    (one : u8 body 4 = 1) : examineBlock body s = takeBlockInput body s 0 := by
  rw [examineBlock_of_wellFormed running (by omega), one]
  rfl

theorem examineBlock_of_malformed {body : List Byte} {s : State} (running : s.phase = .running)
    (malformed : ¬(5 ≤ body.length ∧ 1 ≤ u8 body 4 ∧ u8 body 4 ≤ 8 ∧ body.length = 5 + 65 * u8 body 4)) :
    examineBlock body s = report .input .malformedBlock 255 s := by
  unfold examineBlock
  rw [if_pos running, if_neg (mt (blockWellFormed_iff body).1 malformed)]
  rfl

theorem examineBlock_of_not_running {body : List Byte} {s : State} (stopped : s.phase ≠ .running) :
    examineBlock body s = s := if_neg stopped

theorem takeBlockInput_around (body : List Byte) (i : Nat) (s : State) : s.SameAround (takeBlockInput body s i) :=
  (sameAround_keptByBlocks s).takeBlockInput body i (.refl s)

theorem examineBlock_around (body : List Byte) (s : State) : s.SameAround (examineBlock body s) :=
  (sameAround_keptByBlocks s).examineBlock body (.refl s)

theorem foldl_takeBlockInput_alone {body : List Byte} (is : List Nat) (long : ∀ i ∈ is, 5 + 65 * (i + 1) ≤ body.length)
    {s : State} (running : s.phase = .running) :
    is.foldl (takeBlockInput body) s = is.foldl (fun v i => examineBlock (aloneBlock body i) v) s := by
  induction is generalizing s with
  | nil => rfl
  | cons i is ih =>
    have here := long i List.mem_cons_self
    have alone : examineBlock (aloneBlock body i) s = takeBlockInput body s i :=
      (examineBlock_of_one running (aloneBlock_length here) (aloneBlock_u8_count (by omega))).trans
        (takeBlockInput_alone (by omega) s)
    rw [List.foldl_cons, List.foldl_cons, alone]
    exact ih (fun j hj => long j (List.mem_cons_of_mem i hj)) ((takeBlockInput_around body i s).1.trans running)

theorem matchInput_eq_none {s : State} {sensor input : Nat}
    (held : sensor = 0 ∨ ∀ c : Channel, (s.channelEntry c).sensorId = sensor → (s.channelEntry c).input = input →
      (s.channel c).state = .off) : matchInput s sensor input = none := by
  unfold matchInput
  by_cases zero : sensor = 0
  · rw [if_pos zero]
  rw [if_neg zero, List.find?_eq_none]
  intro c _ matched
  simp only [Bool.and_eq_true, beq_iff_eq, decide_eq_true_eq] at matched
  exact matched.2 (held.resolve_left zero c matched.1.1 matched.1.2)

/-- Settles O34: the block is examined first; each of its inputs does what it does alone. -/
theorem cycleBlocksAreExaminedOnce : Obligations.CycleBlocksAreExaminedOnce := by
  intro s port bytes lock f phase good block
  have around := examineBlock_around f.body s
  have placed := exec_goodFrame (port := port) (lock := lock) phase good
  refine ⟨_, rfl, around.2.2.2.2.2.2.1, around.2.1, fun mine => ?_, fun other => ?_, fun restoring => ?_,
    fun running malformed => examineBlock_of_malformed running malformed, fun running low high length => ?_,
    fun length one none => ?_, fun _ => by cases port <;> rfl, ⟨rfl, rfl, rfl, fun i => ⟨rfl, ?_⟩⟩, cycleDistance_eq⟩
  · rw [placed]
    unfold placeFrame
    rw [if_pos mine, if_pos (show f.kind = kindCycleBlock from block)]
  · rw [placed]
    unfold placeFrame
    rw [if_neg other, if_pos (show f.kind = kindCycleBlock from block)]
  · exact examineBlock_of_not_running (by rw [restoring]; nofun)
  · rw [examineBlock_of_wellFormed running ⟨low, high, length⟩]
    exact foldl_takeBlockInput_alone _ (fun i hi => by have := List.mem_range.1 hi; omega) running
  · by_cases running : s.phase = .running
    · rw [examineBlock_of_one running length one]
      unfold takeBlockInput
      rw [matchInput_eq_none none]
    · exact examineBlock_of_not_running running
  · exact List.map_congr_left fun k _ => s16_eq _ _

end Sys2Proof.Machine

/-! PROOF. The steps of a matched input, each on a state whose channel record is written out; the inputs that are old,
and those that reseed (O36). -/

namespace Sys2Proof.Machine

/-! ### The block that reaches a channel (R6) -/

theorem matchInput_of_matches {s : State} {c : Channel} {sensor input : Nat} (matched : s.Matches c sensor input) :
    matchInput s sensor input = some c := by
  obtain ⟨nonzero, sensorIs, inputIs, serving, alone⟩ := matched
  have holds : ((s.channelEntry c).sensorId == sensor && (s.channelEntry c).input == input &&
      decide ((s.channel c).state ≠ .off)) = true := by
    simp [sensorIs, inputIs, serving]
  unfold matchInput
  rw [if_neg nonzero]
  cases found : (List.finRange 40).find? (fun c => (s.channelEntry c).sensorId == sensor &&
      (s.channelEntry c).input == input && (s.channel c).state ≠ .off) with
  | none => exact absurd holds (List.find?_eq_none.1 found c (List.mem_finRange c))
  | some d =>
    have held := List.find?_some found
    simp only [Bool.and_eq_true, beq_iff_eq] at held
    by_contra other
    exact alone d (fun same => other (congrArg some same)) held.1

theorem exec_blockFor {s : State} {port : Port} {bytes : List Byte} {lock : Bool} {f : GoodFrame} {c : Channel}
    (good : checkFrame bytes = .ok f) (block : f.kind = 0x21) (mine : f.dest = s.stationAddress)
    (blockFor : s.BlockFor c f.body) :
    exec (.frameArrival port bytes lock) s =
      .next (takeInput c (blockCycle f.body) (inputSamples f.body 0) s) := by
  obtain ⟨running, length, one, matched⟩ := blockFor
  rw [exec_goodFrame (port := port) (lock := lock) (.inl running) good]
  unfold placeFrame
  rw [if_pos mine, if_pos (show f.kind = kindCycleBlock from block), examineBlock_of_one running length one]
  unfold takeBlockInput
  rw [matchInput_of_matches matched]
  rfl

/-! ### The stages, on a written record (R18 to R21) -/

/-- The reports of stage 1 (R18). -/
def State.meanReported (w : State) (c : Channel) (samples : List Int) : State :=
  if samples.any sampleInvalid then report .input .invalidSamples (subjectOf c.val) w
  else if samples.any sampleClipped then report .input .clipped (subjectOf c.val) w
  else w

/-- The output value of a filter value (R21). -/
def ChannelEntry.outputOf (e : ChannelEntry) (y : Int) : Int :=
  clampTo (-(outputLimit e.kind)) (outputLimit e.kind) (scaleRaw e y)

/-- The report of stage 3 (R21). -/
def State.scaleReported (w : State) (c : Channel) (y : Int) : State :=
  if (w.channelEntry c).outputOf y = scaleRaw (w.channelEntry c) y then w
  else report .compute .channelClamp (subjectOf c.val) w

/-- The record of an accepted input: the cycle number taken, the timers full (R15, R17). -/
def ChannelRec.accepted (n : Cycle) (lost stale : Option Nat) (q : ChannelRec) : ChannelRec :=
  { q with lastCycle := some n, lostTimer := lost, staleTimer := if q.state.live then stale else q.staleTimer }

/-- The mean of an input's samples, or the held one with an invalid sample among them (R18). -/
def ChannelRec.meanOf (samples : List Int) (q : ChannelRec) : Int :=
  if samples.any sampleInvalid then q.mean else cycleMean samples

/-- The filter value after an input (R19, R20). -/
def ChannelRec.filterOf (e : ChannelEntry) (first : Bool) (samples : List Int) (q : ChannelRec) : Int :=
  if first then q.meanOf samples * 256 else filterStep e.shift q.y (q.meanOf samples)

/-- The record after the three stages (R18 to R21). -/
def ChannelRec.staged (e : ChannelEntry) (first : Bool) (samples : List Int) (q : ChannelRec) : ChannelRec :=
  { q with
    mean := q.meanOf samples, y := q.filterOf e first samples, output := e.outputOf (q.filterOf e first samples)
    clipped := !samples.any sampleInvalid && samples.any sampleClipped }

section Stages

variable (w : State) (c : Channel) (q : ChannelRec)

@[simp] theorem State.meanReported_channelEntry (samples : List Int) (o : Channel) :
    (w.meanReported c samples).channelEntry o = w.channelEntry o := by
  unfold meanReported
  split_ifs <;> simp

theorem State.meanReported_eq (samples : List Int) :
    w.meanReported c samples =
      if samples.any sampleInvalid then report .input .invalidSamples (subjectOf c.val) w
      else if !samples.any sampleInvalid && samples.any sampleClipped then report .input .clipped (subjectOf c.val) w
      else w := by
  unfold meanReported
  cases samples.any sampleInvalid <;> rfl

@[simp] theorem State.scaleReported_channelEntry (y : Int) (o : Channel) :
    (w.scaleReported c y).channelEntry o = w.channelEntry o := by
  unfold scaleReported
  split_ifs <;> simp

@[simp] theorem State.setChannel_channelEntry_eq (r : ChannelRec) (o : Channel) :
    (w.setChannel c r).channelEntry o = w.channelEntry o := rfl

theorem acceptInput_setChannel (n : Cycle) :
    acceptInput c n (w.setChannel c q) = w.setChannel c (q.accepted n (w.fullLost c) w.fullStale) := by
  unfold acceptInput
  exact State.mapChannel_setChannel w c q _

theorem stageMean_setChannel (samples : List Int) :
    stageMean c samples (w.setChannel c q) = (w.meanReported c samples).setChannel c
      { q with
        mean := if samples.any sampleInvalid then q.mean else cycleMean samples
        clipped := !samples.any sampleInvalid && samples.any sampleClipped } := by
  unfold stageMean State.meanReported
  rw [State.mapChannel_setChannel, State.mapChannel_setChannel, State.mapChannel_setChannel]
  cases samples.any sampleInvalid with
  | true =>
    rw [if_pos rfl, if_pos rfl, if_pos rfl, report_setChannel]
    rfl
  | false =>
    cases samples.any sampleClipped with
    | true => exact report_setChannel ..
    | false => rfl

theorem stageFilter_setChannel (first : Bool) :
    stageFilter c first (w.setChannel c q) = w.setChannel c
      { q with y := if first then q.mean * 256 else filterStep (w.channelEntry c).shift q.y q.mean } := by
  unfold stageFilter
  exact State.mapChannel_setChannel w c q _

theorem stageScale_setChannel :
    stageScale c (w.setChannel c q) =
      (w.scaleReported c q.y).setChannel c { q with output := (w.channelEntry c).outputOf q.y } := by
  unfold stageScale State.scaleReported
  dsimp only
  rw [State.setChannel_channel_same, State.setChannel_channelEntry_eq]
  unfold ChannelEntry.outputOf
  by_cases same : clampTo (-(outputLimit (w.channelEntry c).kind)) (outputLimit (w.channelEntry c).kind)
      (scaleRaw (w.channelEntry c) q.y) = scaleRaw (w.channelEntry c) q.y
  · rw [if_pos same, if_pos same, State.mapChannel_setChannel]
  · rw [if_neg same, if_neg same, report_setChannel, State.mapChannel_setChannel]

theorem stages_setChannel (first : Bool) (samples : List Int) :
    stageScale c (stageFilter c first (stageMean c samples (w.setChannel c q))) =
      ((w.meanReported c samples).scaleReported c (q.filterOf (w.channelEntry c) first samples)).setChannel c
        (q.staged (w.channelEntry c) first samples) := by
  rw [stageMean_setChannel, stageFilter_setChannel, stageScale_setChannel, State.meanReported_channelEntry]
  rfl

/-! ### The counts and settle remaining (R13, R14) -/

theorem countStep_settling_skipped (settling : q.state = .settling) :
    countStep c false true (w.setChannel c q) = w.setChannel c (q.counted true) := by
  have state : (q.counted true).state = .settling := settling
  unfold countStep
  rw [State.mapChannel_setChannel]
  dsimp only
  rw [State.setChannel_channel_same, state]
  rfl

/-- An input that counts toward settling, while more are due (R13). -/
theorem countStep_settling_more {first bad : Bool} (counts : (!bad || first) = true) (settling : q.state = .settling)
    (more : q.settle - 1 ≠ 0) :
    countStep c first bad (w.setChannel c q) = w.setChannel c { q.counted bad with settle := q.settle - 1 } := by
  have state : (q.counted bad).state = .settling := by cases bad <;> exact settling
  have left : (q.counted bad).settle = q.settle := by cases bad <;> rfl
  unfold countStep
  rw [State.mapChannel_setChannel]
  dsimp only
  rw [State.setChannel_channel_same, state]
  dsimp only
  rw [if_pos counts]
  unfold settleStep
  dsimp only
  rw [State.setChannel_channel_same, State.mapChannel_setChannel, left, if_neg more, state]

/-- The last input that a settling channel waits for takes it to VALID (R13). -/
theorem countStep_settling_last {first bad : Bool} (counts : (!bad || first) = true) (settling : q.state = .settling)
    (last : q.settle - 1 = 0) :
    countStep c first bad (w.setChannel c q) =
      channelNotice c (takeChange (.channel c) ChannelState.settling.rank ChannelState.valid.rank (w.setChannel c
        { (q.counted bad).countsCleared with settle := q.settle - 1, staleTimer := w.fullStale, state := .valid })) := by
  have state : (q.counted bad).state = .settling := by cases bad <;> exact settling
  have left : (q.counted bad).settle = q.settle := by cases bad <;> rfl
  unfold countStep
  rw [State.mapChannel_setChannel]
  dsimp only
  rw [State.setChannel_channel_same, state]
  dsimp only
  rw [if_pos counts]
  unfold settleStep
  dsimp only
  rw [State.setChannel_channel_same, State.mapChannel_setChannel, left, if_pos last, State.mapChannel_setChannel,
    changeChannelState_setChannel]
  show channelNotice c (takeChange _ (q.counted bad).state.rank _ _) = _
  rw [state]
  rfl

theorem countStep_valid {first bad : Bool} (valid : q.state = .valid) :
    countStep c first bad (w.setChannel c q) =
      if (q.counted bad).degraded = 8 then
        channelNotice c (takeChange (.channel c) ChannelState.valid.rank ChannelState.suspect.rank (w.setChannel c
          { (q.counted bad).countsCleared with state := .suspect }))
      else w.setChannel c (q.counted bad) := by
  have state : (q.counted bad).state = .valid := by cases bad <;> exact valid
  unfold countStep
  rw [State.mapChannel_setChannel]
  dsimp only
  rw [State.setChannel_channel_same, state]
  dsimp only
  rw [State.mapChannel_setChannel, changeChannelState_setChannel]
  show (if _ then channelNotice c (takeChange _ (q.counted bad).state.rank _ _) else _) = _
  rw [state]

theorem countStep_suspect {first bad : Bool} (suspect : q.state = .suspect) :
    countStep c first bad (w.setChannel c q) =
      if (q.counted bad).good = 4 then
        channelNotice c (takeChange (.channel c) ChannelState.suspect.rank ChannelState.valid.rank (w.setChannel c
          { (q.counted bad).countsCleared with state := .valid }))
      else w.setChannel c (q.counted bad) := by
  have state : (q.counted bad).state = .suspect := by cases bad <;> exact suspect
  unfold countStep
  rw [State.mapChannel_setChannel]
  dsimp only
  rw [State.setChannel_channel_same, state]
  dsimp only
  rw [State.mapChannel_setChannel, changeChannelState_setChannel]
  show (if _ then channelNotice c (takeChange _ (q.counted bad).state.rank _ _) else _) = _
  rw [state]

end Stages

/-- The hand-on of a channel that settles gives nothing (R24, R25). -/
theorem handOn_of_settling {c : Channel} {s : State} (n : Cycle) (settling : (s.channel c).state = .settling) :
    handOn c n s = s := by
  unfold handOn
  rw [settling]
  exact fieldOutput_of_not (.inr (by rw [settling]; nofun))

/-! ### The judgement of an input (R8, R17) -/

section Judged

variable {s : State} {c : Channel} {n : Cycle} {samples : List Int}

theorem takeInput_of_lost (lost : (s.channel c).state = .lost) :
    takeInput c n samples s = processInput c true 0 n samples (acceptInput c n (settleAgain c s)) := by
  unfold takeInput
  rw [lost]

theorem takeInput_of_judged (serving : (s.channel c).state ≠ .off) (found : (s.channel c).state ≠ .lost) :
    takeInput c n samples s = judgedInput c n samples s := by
  unfold takeInput
  cases state : (s.channel c).state with
  | off => exact absurd state serving
  | lost => exact absurd state found
  | settling | valid | suspect | stale => rfl

theorem judgedInput_old {last : Cycle} (known : (s.channel c).lastCycle = some last)
    (low : -64 ≤ cycleDistance last n) (high : cycleDistance last n ≤ 0) :
    judgedInput c n samples s = report .input .oldBlock (subjectOf c.val) s := by
  have judged : judgeCycle (s.channel c).lastCycle n = .old := by
    rw [known]
    exact (if_neg (by omega)).trans (if_pos ⟨low, high⟩)
  unfold judgedInput
  rw [judged]

theorem judgedInput_break {last : Cycle} (known : (s.channel c).lastCycle = some last)
    (breaks : 5 ≤ cycleDistance last n ∨ cycleDistance last n ≤ -65) :
    judgedInput c n samples s = processInput c true 0 n samples
      (acceptInput c n (settleAgain c (report .input .sequenceBreak (subjectOf c.val) s))) := by
  have judged : judgeCycle (s.channel c).lastCycle n = .sequenceBreak := by
    rw [known]
    exact (if_neg (by omega)).trans (if_neg (by omega))
  unfold judgedInput
  rw [judged]

end Judged

/-! ### The first input after a reseed (R13, R20) -/

/-- The steps of an input that is the first after a reseed: the record, the reports, and no state change. -/
theorem processInput_first {w : State} {c : Channel} {q : ChannelRec} (n : Cycle) (samples : List Int)
    (state : q.state = .settling) (more : q.settle - 1 ≠ 0) :
    processInput c true 0 n samples (acceptInput c n (w.setChannel c q)) =
      ((w.meanReported c samples).scaleReported c (q.meanOf samples * 256)).setChannel c
        { ((q.accepted n (w.fullLost c) w.fullStale).staged (w.channelEntry c) true samples).counted
            (samples.any sampleInvalid) with settle := q.settle - 1 } := by
  have counts := countStep_settling_more ((w.meanReported c samples).scaleReported c (q.meanOf samples * 256)) c
    ((q.accepted n (w.fullLost c) w.fullStale).staged (w.channelEntry c) true samples)
    (Bool.or_true (!samples.any sampleInvalid)) state more
  unfold processInput
  rw [acceptInput_setChannel]
  show handOn c n (countStep c true _ (stageScale c (stageFilter c true (stageMean c samples (w.setChannel c _))))) = _
  rw [stages_setChannel]
  refine Eq.trans (congrArg (handOn c n) counts) (handOn_of_settling n ?_)
  rw [State.setChannel_channel_same]
  cases samples.any sampleInvalid <;> exact state

/-! ### A reseed (R10, R17, R20) -/

/-- The record that a reseed leaves (R20). -/
theorem reseed_setChannel (c : Channel) (s : State) :
    reseed c s = clearSecond c (s.setChannel c ((s.channel c).reseeded (s.channelEntry c).shift)) := rfl

/-- The channel a reseed leaves SETTLING, whatever its state before. -/
theorem settleAgain_channel (c : Channel) (s : State) :
    (settleAgain c s).channel c =
      { (s.channel c).reseeded (s.channelEntry c).shift with
        state := .settling
        staleTimer := if (s.channel c).state = .settling then (s.channel c).staleTimer else none
        second := ((reseed c s).channel c).second } := by
  rw [reseed_setChannel]
  by_cases same : (s.channel c).state = .settling
  · rw [settleAgain_of_settling same, clearSecond_setChannel, State.setChannel_channel_same, if_pos same, ← same]
    rfl
  · rw [settleAgain_of_ne same, channelNotice_channel, if_neg same]
    show (clearSecond c (s.setChannel c _)).channel c = _
    rw [clearSecond_setChannel, clearSecond_setChannel, State.setChannel_channel_same, State.setChannel_channel_same]

/-- The reseed's clearing, and then the entry to SETTLING on the record it left. -/
theorem settleAgain_eq (c : Channel) (s : State) :
    settleAgain c s =
      if (s.channel c).state = .settling then reseed c s
      else channelNotice c (takeChange (.channel c) (s.channel c).state.rank ChannelState.settling.rank
        ((reseed c s).setChannel c { (reseed c s).channel c with state := .settling, staleTimer := none })) := by
  by_cases same : (s.channel c).state = .settling
  · rw [if_pos same]
    exact if_pos same
  · rw [if_neg same, settleAgain_of_ne same, reseed_setChannel, clearSecond_setChannel, clearSecond_setChannel,
      State.setChannel_channel_same, State.setChannel_setChannel]

/-! ### The INPUT bank after a report to it (R141, R142) -/

theorem BankRec.take_valid (now : Word32) (code : ErrorCode) (subject : Byte) (r : BankRec) :
    (r.take now code subject).valid = true := by
  unfold take
  split
  · next valid =>
      dsimp only
      split_ifs <;> exact valid
  · rfl

theorem report_keeps_valid (b o : BankId) (code : ErrorCode) (x : Byte) {s : State} (valid : (s.bank o).valid = true) :
    ((report b code x s).bank o).valid = true := by
  rw [report_bank]
  split
  · exact BankRec.take_valid ..
  · exact valid

theorem report_makes_valid (b : BankId) (code : ErrorCode) (x : Byte) {s : State} (running : s.phase = .running) :
    ((report b code x s).bank b).valid = true := by
  rw [report_bank, if_pos ⟨rfl, State.bankTakes_of_running running b⟩]
  exact BankRec.take_valid ..

theorem State.SameInputs.settleAgain (c : Channel) (s : State) : (settleAgain c s).bank .input = s.bank .input := by
  have cleared : (reseed c s).bank .input = s.bank .input := by
    rw [reseed_setChannel]
    unfold clearSecond
    split <;> rfl
  rw [settleAgain_eq]
  split
  · exact cleared
  · exact (State.SameInputs.channelNotice c _).2.2.trans cleared

/-- The record of the first input after a reseed (R13, R18 to R21). -/
theorem firstRecord_eq {q : ChannelRec} (e : ChannelEntry) (n : Cycle) (samples : List Int) (lost stale : Option Nat)
    (state : q.state = .settling) (degraded : q.degraded = 0) (good : q.good = 0) :
    ({ ((q.accepted n lost stale).staged e true samples).counted (samples.any sampleInvalid) with
        settle := q.settle - 1 } : ChannelRec) =
      { q with
        y := q.meanOf samples * 256, mean := q.meanOf samples, lastCycle := some n
        output := e.outputOf (q.meanOf samples * 256)
        clipped := !samples.any sampleInvalid && samples.any sampleClipped
        degraded := if samples.any sampleInvalid then 1 else 0
        good := if samples.any sampleInvalid then 0 else 1
        settle := q.settle - 1
        lostTimer := lost } := by
  have accepted : q.accepted n lost stale = { q with lastCycle := some n, lostTimer := lost } := by
    unfold ChannelRec.accepted
    rw [state]
    exact congrArg _ rfl
  have staged : (q.accepted n lost stale).staged e true samples =
      { q with
        y := q.meanOf samples * 256, mean := q.meanOf samples, lastCycle := some n
        output := e.outputOf (q.meanOf samples * 256)
        clipped := !samples.any sampleInvalid && samples.any sampleClipped, lostTimer := lost } := by
    rw [accepted]
    rfl
  rw [staged]
  unfold ChannelRec.counted
  cases samples.any sampleInvalid with
  | true =>
    dsimp only
    rw [degraded]
    rfl
  | false =>
    dsimp only
    rw [good]
    rfl

theorem outputLimit_eq (k : ChannelKind) : outputLimit k = if k = .neutral then 5000 else 32767 := by
  cases k <;> rfl

/-- Settles O36: an old input only reports; a break is a reseed and then the first input of the new sequence. -/
theorem oldAndBreakingBlocks : Obligations.OldAndBreakingBlocks := by
  intro s port bytes lock f c good block mine blockFor
  have arrives := exec_blockFor (port := port) (lock := lock) good block mine blockFor
  obtain ⟨running, -, -, -, -, -, serving, -⟩ := blockFor
  intro r e subject
  refine ⟨fun last found known low high => ?_, fun breaks => ?_⟩
  · rw [arrives, takeInput_of_judged serving found, judgedInput_old known low high]
    rfl
  intro samples degraded clipped mean plain scaled limit output put broken reseeded settling judged t
  have brokenIs : WorksOnChannel c s broken := by
    show WorksOnChannel c s (if r.state = .lost then s else report .input .sequenceBreak subject s)
    split
    · exact .refl s
    · exact .report _ _ _ s
  have brokenChannel : broken.channel c = r := by
    show (if r.state = .lost then s else report .input .sequenceBreak subject s).channel c = r
    split
    · rfl
    · exact report_channel ..
  have takes : takeInput c (blockCycle f.body) samples s =
      processInput c true 0 (blockCycle f.body) samples (acceptInput c (blockCycle f.body) (settleAgain c broken)) := by
    by_cases lost : r.state = .lost
    · rw [takeInput_of_lost lost, show broken = s from if_pos lost]
    · obtain ⟨last, known, far⟩ := breaks.resolve_left lost
      rw [takeInput_of_judged serving lost, judgedInput_break known far,
        show broken = report .input .sequenceBreak subject s from if_neg lost]
      rfl
  have brokenEntry : broken.channelEntry c = e := congrArg (fun es => es[c]) brokenIs.2.2.2.2.2.1
  have reseededIs : reseed c broken = reseeded := by
    rw [reseed_setChannel, brokenChannel, brokenEntry]
    rfl
  have settlingIs : settleAgain c broken = settling := by
    rw [settleAgain_eq, brokenChannel, reseededIs]
    rfl
  have record := settleAgain_channel c broken
  rw [brokenChannel, brokenEntry, settlingIs, reseededIs] at record
  have settlingWorks : WorksOnChannel c s settling := brokenIs.trans (settlingIs ▸ WorksOnChannel.settleAgain c broken)
  have entry : settling.channelEntry c = e := congrArg (fun es => es[c]) settlingWorks.2.2.2.2.2.1
  have setup : settling.setup = s.setup := settlingWorks.2.2.2.2.1
  have state : (settling.channel c).state = .settling := by rw [record]
  have meanIs : (settling.channel c).meanOf samples = mean := by
    rw [record]
    rfl
  have settleIs : (settling.channel c).settle = 2 ^ e.shift + 4 := by
    rw [record]
    rfl
  have more : (settling.channel c).settle - 1 ≠ 0 := by
    rw [settleIs]
    exact Nat.succ_ne_zero _
  have first := processInput_first (w := settling) (c := c) (q := settling.channel c) (blockCycle f.body) samples state more
  rw [settling.setChannel_self c, firstRecord_eq _ _ _ _ _ state (by rw [record]; rfl) (by rw [record]; rfl), entry,
    meanIs] at first
  have limitIs : outputLimit e.kind = limit := outputLimit_eq e.kind
  have outputIs : e.outputOf (mean * 256) = output := by
    unfold ChannelEntry.outputOf
    rw [limitIs]
    rfl
  have scaledIs : scaleRaw e (mean * 256) = scaled := rfl
  have judgedIs : settling.meanReported c samples = judged := State.meanReported_eq ..
  have reported : (settling.meanReported c samples).scaleReported c (mean * 256) =
      if output = scaled then judged else report .compute .channelClamp subject judged := by
    unfold State.scaleReported
    rw [State.meanReported_channelEntry, entry, outputIs, scaledIs, judgedIs]
    rfl
  have lostIs : settling.fullLost c = some (e.lostLimit * (3000 / s.setup.freq)) := by
    unfold State.fullLost
    rw [entry, setup]
    rfl
  have result : processInput c true 0 (blockCycle f.body) samples (acceptInput c (blockCycle f.body) settling) = t := by
    rw [first, reported, outputIs, lostIs, settleIs]
    rfl
  have judgedWorks : WorksOnChannel c s (if output = scaled then judged else report .compute .channelClamp subject judged) := by
    have mean : WorksOnChannel c settling (settling.meanReported c samples) := by
      unfold State.meanReported
      split
      · exact .report _ _ _ _
      split
      · exact .report _ _ _ _
      · exact .refl _
    refine settlingWorks.trans (mean.trans ?_)
    rw [← judgedIs]
    split
    · exact .refl _
    · exact .report _ _ _ _
  obtain ⟨others, xfs, around⟩ := judgedWorks.trans (.setChannel _ _ : WorksOnChannel c _ t)
  have taken : t.channel c = _ := State.setChannel_channel_same ..
  refine ⟨?_, ?_, ?_, others, xfs, around, fun found => ?_⟩
  · rw [arrives, takes, settlingIs, result]
  · rw [taken]
    exact state
  · rw [taken]
    show (settling.channel c).second = _
    rw [record]
  · have brokenValid : (broken.bank .input).valid = true := by
      rw [show broken = report .input .sequenceBreak subject s from if_neg found]
      exact report_makes_valid _ _ _ running
    have settlingValid : (settling.bank .input).valid = true := by
      rw [← settlingIs, State.SameInputs.settleAgain]
      exact brokenValid
    have judgedValid : (judged.bank .input).valid = true := by
      rw [← judgedIs]
      unfold State.meanReported
      split
      · exact report_keeps_valid _ _ _ _ settlingValid
      split
      · exact report_keeps_valid _ _ _ _ settlingValid
      · exact settlingValid
    show ((if output = scaled then judged else report .compute .channelClamp subject judged).bank .input).valid = true
    split
    · exact judgedValid
    · exact report_keeps_valid _ _ _ _ judgedValid

end Sys2Proof.Machine

/-! PROOF. The steps of an accepted input, each on a state whose channel record is written out: a missing cycle, and the
counts with the state change that they cause (R13, R14, R19, R25). -/

namespace Sys2Proof.Machine

/-! ### What the per-second step and the reports touch beside the channel's record -/

/-- From `s` to `w` only the station, STORM OUT, the banks and the queue differ. -/
def State.Beside (s w : State) : Prop :=
  w = { s with station := w.station, stormOut := w.stormOut, banks := w.banks, queue := w.queue }

namespace State.Beside

variable {s w v : State}

theorem refl (s : State) : s.Beside s := rfl

theorem trans (h : s.Beside w) (h' : w.Beside v) : s.Beside v := by
  unfold Beside at *
  rw [h] at h'
  exact h'

theorem report (b : BankId) (code : ErrorCode) (x : Byte) (s : State) : s.Beside (report b code x s) := by
  unfold Beside
  conv_lhs => rw [report_eq]
  rw [report_eq]

theorem rateNotice (c : Channel) (k : ChannelKind) (r : Int) (s : State) : s.Beside (rateNotice c k r s) := by
  unfold Beside
  conv_lhs => rw [rateNotice_eq]
  rw [rateNotice_eq]

theorem meanReported (c : Channel) (samples : List Int) (s : State) : s.Beside (s.meanReported c samples) := by
  unfold State.meanReported
  split_ifs
  · exact report _ _ _ s
  · exact report _ _ _ s
  · exact refl s

theorem scaleReported (c : Channel) (y : Int) (s : State) : s.Beside (s.scaleReported c y) := by
  unfold State.scaleReported
  split_ifs
  · exact refl s
  · exact report _ _ _ s

/-- What such work keeps. -/
theorem kept (h : s.Beside w) :
    w.setup = s.setup ∧ w.channelEntries = s.channelEntries ∧ w.channels = s.channels ∧ w.xfs = s.xfs ∧
    w.recorder = s.recorder ∧ w.alarmOut = s.alarmOut := by
  unfold Beside at h
  rw [h]
  exact ⟨rfl, rfl, rfl, rfl, rfl, rfl⟩

theorem channelEntry (h : s.Beside w) (c : Channel) : w.channelEntry c = s.channelEntry c :=
  congrArg (fun es => es[c]) h.kept.2.1

theorem worksOnChannel (h : s.Beside w) (c : Channel) : WorksOnChannel c s w := by
  unfold Beside at h
  rw [h]
  exact .ofBeside rfl rfl (.refl s)

end State.Beside

/-! ### The per-second step on a written record (R92 to R94) -/

theorem State.withSecond_setChannel (w : State) (c : Channel) (q : ChannelRec) (v : FieldSecond) :
    (w.setChannel c q).withSecond c v = w.setChannel c { q with second := v } := by
  unfold State.withSecond
  rw [State.setChannel_channel_same, State.setChannel_setChannel]

theorem rateNotice_setChannel (w : State) (c : Channel) (k : ChannelKind) (x : Int) (q : ChannelRec) :
    ∃ v, w.Beside v ∧ rateNotice c k x (w.setChannel c q) = v.setChannel c q := by
  refine ⟨{ w with
    station := (rateNotice c k x (w.setChannel c q)).station, stormOut := (rateNotice c k x (w.setChannel c q)).stormOut
    queue := (rateNotice c k x (w.setChannel c q)).queue }, rfl, ?_⟩
  exact rateNotice_eq ..

/-- The per-second step writes the per-second fields alone of the record, and none where the channel adds nothing. -/
theorem fieldOutput_setChannel (w : State) (c : Channel) (q : ChannelRec) :
    ∃ v second, w.Beside v ∧ fieldOutput c (w.setChannel c q) = v.setChannel c { q with second := second } ∧
      ((w.channelEntry c).kind = .neutral ∨ ¬(q.state = .valid ∨ q.state = .suspect) →
        second = q.second ∧ v.station = w.station) := by
  by_cases idle : (w.channelEntry c).kind = .neutral ∨ ¬(q.state = .valid ∨ q.state = .suspect)
  · refine ⟨w, q.second, .refl w, ?_, fun _ => ⟨rfl, rfl⟩⟩
    exact fieldOutput_of_not (by rw [State.setChannel_channel_same]; exact idle)
  have adds : perSecondAdd c (w.setChannel c q) = fieldOutput c (w.setChannel c q) := by
    rw [not_or, not_not] at idle
    exact (fieldOutput_of_adds (s := w.setChannel c q) idle.1 (by rw [State.setChannel_channel_same]; exact idle.2)).symm
  rw [← adds]
  by_cases full : ((w.setChannel c q).channel c).second.count + 1 = (w.setChannel c q).setup.freq
  · rw [perSecondAdd_of_full full]
    cases before : ((w.setChannel c q).channel c).second.latestMean with
    | none =>
      rw [fieldBoundary_of_none _ before, State.withSecond_setChannel]
      exact ⟨w, _, .refl w, rfl, fun h => absurd h idle⟩
    | some previous =>
      rw [fieldBoundary_of_some _ before, formRate_withSecond]
      dsimp only
      rw [State.withSecond_setChannel, report_setChannel]
      split
      · obtain ⟨v, beside, eq⟩ := rateNotice_setChannel w c ((w.setChannel c q).channelEntry c).kind _ _
        exact ⟨v, _, beside, eq, fun h => absurd h idle⟩
      · obtain ⟨v, beside, eq⟩ := rateNotice_setChannel (report .compute .rateClamp (subjectOf c.val) w) c
          ((w.setChannel c q).channelEntry c).kind _ _
        exact ⟨v, _, (State.Beside.report ..).trans beside, eq, fun h => absurd h idle⟩
  · rw [perSecondAdd_of_short full, State.withSecond_setChannel]
    exact ⟨w, _, .refl w, rfl, fun h => absurd h idle⟩

/-! ### The missing cycles of a gap (R19, R25) -/

theorem gapCycle_setChannel (w : State) (c : Channel) (q : ChannelRec) :
    ∃ v second, w.Beside v ∧
      gapCycle c (w.setChannel c q) = v.setChannel c
        { q with
          y := filterStep (w.channelEntry c).shift q.y q.mean
          output := (w.channelEntry c).outputOf (filterStep (w.channelEntry c).shift q.y q.mean), second := second } ∧
      ((w.channelEntry c).kind = .neutral ∨ ¬(q.state = .valid ∨ q.state = .suspect) →
        second = q.second ∧ v.station = w.station) := by
  have staged := stageScale_setChannel w c
    { q with y := filterStep (w.channelEntry c).shift q.y q.mean }
  obtain ⟨v, second, beside, eq, idle⟩ := fieldOutput_setChannel
    (w.scaleReported c (filterStep (w.channelEntry c).shift q.y q.mean)) c
    { q with
      y := filterStep (w.channelEntry c).shift q.y q.mean
      output := (w.channelEntry c).outputOf (filterStep (w.channelEntry c).shift q.y q.mean) }
  refine ⟨v, second, (State.Beside.scaleReported ..).trans beside, ?_, fun h => ?_⟩
  · unfold gapCycle
    rw [stageFilter_setChannel]
    exact (congrArg (fieldOutput c) staged).trans eq
  · rw [State.scaleReported_channelEntry] at idle
    obtain ⟨same, station⟩ := idle h
    refine ⟨same, station.trans ?_⟩
    unfold State.scaleReported
    split
    · rfl
    · rw [report_eq]

theorem gapCycles_setChannel (n : Nat) (w : State) (c : Channel) (q : ChannelRec) :
    ∃ v output second, w.Beside v ∧
      gapCycles c n (w.setChannel c q) = v.setChannel c
        { q with
          y := (fun y => filterStep (w.channelEntry c).shift y q.mean)^[n] q.y, output := output, second := second } ∧
      ((w.channelEntry c).kind = .neutral ∨ ¬(q.state = .valid ∨ q.state = .suspect) ∨ n = 0 →
        second = q.second ∧ v.station = w.station) := by
  induction n generalizing w q with
  | zero => exact ⟨w, q.output, q.second, .refl w, rfl, fun _ => ⟨rfl, rfl⟩⟩
  | succ n ih =>
    obtain ⟨v, second, beside, eq, idle⟩ := gapCycle_setChannel w c q
    obtain ⟨v', output', second', beside', eq', idle'⟩ := ih v
      { q with
        y := filterStep (w.channelEntry c).shift q.y q.mean
        output := (w.channelEntry c).outputOf (filterStep (w.channelEntry c).shift q.y q.mean), second := second }
    rw [beside.channelEntry] at eq' idle'
    refine ⟨v', output', second', beside.trans beside', ?_, fun h => ?_⟩
    · show gapCycles c n (gapCycle c (w.setChannel c q)) = _
      rw [eq]
      exact eq'
    · have adds : (w.channelEntry c).kind = .neutral ∨ ¬(q.state = .valid ∨ q.state = .suspect) :=
        h.imp_right fun h => h.resolve_right (Nat.succ_ne_zero n)
      obtain ⟨same, station⟩ := idle adds
      obtain ⟨same', station'⟩ := idle' (adds.imp_right .inl)
      exact ⟨same'.trans same, station'.trans station⟩

/-- A step written on the record is a missing cycle, as often as it is taken. -/
theorem iterate_eq_gapCycles {c : Channel} {e : ChannelEntry} {mean : Int} {missed : State → State}
    (same : ∀ (w : State) (q : ChannelRec), w.channelEntry c = e → q.mean = mean →
      missed (w.setChannel c q) = gapCycle c (w.setChannel c q)) (n : Nat) {w : State} {q : ChannelRec}
    (entry : w.channelEntry c = e) (held : q.mean = mean) :
    missed^[n] (w.setChannel c q) = gapCycles c n (w.setChannel c q) := by
  induction n generalizing w q with
  | zero => rfl
  | succ n ih =>
    obtain ⟨v, second, beside, eq, -⟩ := gapCycle_setChannel w c q
    rw [Function.iterate_succ_apply, same w q entry held]
    show _ = gapCycles c n (gapCycle c (w.setChannel c q))
    rw [eq]
    exact ih ((beside.channelEntry c).trans entry) held

end Sys2Proof.Machine

/-! PROOF. An accepted input (O35): what it makes of the record, and the state it leads to. -/

namespace Sys2Proof.Machine

/-! ### The counts and the state change, in one form (R13, R14) -/

/-- Settle remaining after an input (R13). -/
def ChannelRec.settleAfter (first bad : Bool) (q : ChannelRec) : Nat :=
  if q.state = .settling ∧ (bad = false ∨ first = true) then q.settle - 1 else q.settle

/-- The state after an input's counts (R13, R14). -/
def ChannelRec.stateAfter (first bad : Bool) (q : ChannelRec) : ChannelState :=
  match q.state with
  | .settling =>
    if (bad = false ∨ first = true) ∧ q.settleAfter first bad = 0 then .valid else .settling
  | .valid => if (q.counted bad).degraded = 8 then .suspect else .valid
  | .suspect => if (q.counted bad).good = 4 then .valid else .suspect
  | .stale => .stale
  | .off => .off
  | .lost => .lost

/-- The record after an input's counts; a change of state clears them (R13, R14). -/
def ChannelRec.judgedRecord (first bad : Bool) (full : Option Nat) (q : ChannelRec) : ChannelRec :=
  { q with
    state := q.stateAfter first bad
    degraded := if q.stateAfter first bad = q.state then (q.counted bad).degraded else 0
    good := if q.stateAfter first bad = q.state then (q.counted bad).good else 0
    settle := q.settleAfter first bad
    staleTimer := if q.state = .settling ∧ q.stateAfter first bad = .valid then full else q.staleTimer }

section Counts

variable (w : State) (c : Channel) {q : ChannelRec} (first bad : Bool)

theorem ChannelRec.counted_eq (bad : Bool) (q : ChannelRec) :
    q.counted bad = { q with degraded := (q.counted bad).degraded, good := (q.counted bad).good } := by
  cases bad <;> rfl

theorem judgedRecord_of_same {full : Option Nat} (same : q.stateAfter first bad = q.state) :
    q.judgedRecord first bad full =
      { q with
        degraded := (q.counted bad).degraded, good := (q.counted bad).good, settle := q.settleAfter first bad } := by
  unfold ChannelRec.judgedRecord
  rw [if_pos same, if_pos same, same, if_neg]
  rintro ⟨settling, valid⟩
  rw [settling] at valid
  cases valid

/-- The counts of an input, at a channel that settles, is VALID or is SUSPECT. -/
theorem countStep_setChannel (working : q.state = .settling ∨ q.state = .valid ∨ q.state = .suspect) :
    countStep c first bad (w.setChannel c q) =
      if q.stateAfter first bad = q.state then w.setChannel c (q.judgedRecord first bad w.fullStale)
      else channelNotice c (takeChange (.channel c) q.state.rank (q.stateAfter first bad).rank
        (w.setChannel c (q.judgedRecord first bad w.fullStale))) := by
  obtain settling | valid | suspect := working
  · by_cases counts : bad = false ∨ first = true
    · have counts' : (!bad || first) = true := by
        rw [Bool.or_eq_true, Bool.not_eq_true']
        exact counts
      have settle : q.settleAfter first bad = q.settle - 1 := if_pos ⟨settling, counts⟩
      by_cases last : q.settle - 1 = 0
      · have state : q.stateAfter first bad = .valid := by
          unfold ChannelRec.stateAfter
          rw [settling]
          exact if_pos ⟨counts, settle.trans last⟩
        rw [countStep_settling_last w c q counts' settling last, state, settling, if_neg (by nofun)]
        unfold ChannelRec.judgedRecord
        rw [state, settling, if_neg (by nofun), if_neg (by nofun), if_pos ⟨rfl, rfl⟩, settle, ChannelRec.counted_eq]
        rfl
      · have state : q.stateAfter first bad = q.state := by
          unfold ChannelRec.stateAfter
          rw [settling]
          exact if_neg fun h => last (settle.symm.trans h.2)
        rw [countStep_settling_more w c q counts' settling last, if_pos state, judgedRecord_of_same _ _ state, settle,
          ChannelRec.counted_eq]
    · obtain ⟨degraded, later⟩ := not_or.1 counts
      obtain rfl : bad = true := by simpa using degraded
      obtain rfl : first = false := by simpa using later
      have settle : q.settleAfter false true = q.settle := if_neg fun h => counts h.2
      have state : q.stateAfter false true = q.state := by
        unfold ChannelRec.stateAfter
        rw [settling]
        exact if_neg fun h => counts h.1
      rw [countStep_settling_skipped w c q settling, if_pos state, judgedRecord_of_same _ _ state, settle,
        ChannelRec.counted_eq]
  · have settle : q.settleAfter first bad = q.settle :=
      if_neg fun h => ChannelState.noConfusion (valid.symm.trans h.1)
    rw [countStep_valid w c q valid]
    by_cases eighth : (q.counted bad).degraded = 8
    · have state : q.stateAfter first bad = .suspect := by
        unfold ChannelRec.stateAfter
        rw [valid]
        exact if_pos eighth
      rw [if_pos eighth, state, valid, if_neg (by nofun)]
      unfold ChannelRec.judgedRecord
      rw [state, valid, if_neg (by nofun), if_neg (by nofun), if_neg (by nofun), settle, ChannelRec.counted_eq]
      rfl
    · have state : q.stateAfter first bad = q.state := by
        unfold ChannelRec.stateAfter
        rw [valid]
        exact if_neg eighth
      rw [if_neg eighth, if_pos state, judgedRecord_of_same _ _ state, settle, ChannelRec.counted_eq]
  · have settle : q.settleAfter first bad = q.settle :=
      if_neg fun h => ChannelState.noConfusion (suspect.symm.trans h.1)
    rw [countStep_suspect w c q suspect]
    by_cases fourth : (q.counted bad).good = 4
    · have state : q.stateAfter first bad = .valid := by
        unfold ChannelRec.stateAfter
        rw [suspect]
        exact if_pos fourth
      rw [if_pos fourth, state, suspect, if_neg (by nofun)]
      unfold ChannelRec.judgedRecord
      rw [state, suspect, if_neg (by nofun), if_neg (by nofun), if_neg (by nofun), settle, ChannelRec.counted_eq]
      rfl
    · have state : q.stateAfter first bad = q.state := by
        unfold ChannelRec.stateAfter
        rw [suspect]
        exact if_neg fourth
      rw [if_neg fourth, if_pos state, judgedRecord_of_same _ _ state, settle, ChannelRec.counted_eq]

end Counts

/-! ### The accepted input (R7, R8, R16) -/

theorem judgedInput_first {s : State} {c : Channel} {n : Cycle} {samples : List Int}
    (settling : (s.channel c).state = .settling) (unknown : (s.channel c).lastCycle = none) :
    judgedInput c n samples s = processInput c true 0 n samples (acceptInput c n (staleReturn c s)) := by
  have stays : staleReturn c s = s := if_neg (by rw [settling]; nofun)
  unfold judgedInput
  rw [unknown, stays]
  rfl

theorem judgedInput_accepted {s : State} {c : Channel} {n : Cycle} {samples : List Int} {last : Cycle} {missing : Nat}
    (known : (s.channel c).lastCycle = some last) (few : missing ≤ 3)
    (distance : cycleDistance last n = ((missing + 1 : Nat) : Int)) :
    judgedInput c n samples s = processInput c false missing n samples (acceptInput c n (staleReturn c s)) := by
  have judged : judgeCycle (s.channel c).lastCycle n = .accepted missing := by
    rw [known]
    refine (if_pos (by omega)).trans (congrArg Judgement.accepted ?_)
    omega
  unfold judgedInput
  rw [judged]

/-- A STALE channel comes back to VALID before its input is taken (R16). -/
theorem staleReturn_eq (c : Channel) (s : State) :
    staleReturn c s =
      if (s.channel c).state = .stale then
        channelNotice c (takeChange (.channel c) ChannelState.stale.rank ChannelState.valid.rank (s.setChannel c
          { s.channel c with state := .valid, degraded := 0, good := 0, staleTimer := s.fullStale }))
      else s := by
  by_cases stale : (s.channel c).state = .stale
  · rw [if_pos stale]
    have returns := (if_pos stale : staleReturn c s = _).trans (changeChannelState_setChannel c .valid s _)
    refine returns.trans ?_
    show channelNotice c (takeChange _ (s.channel c).state.rank _ _) = _
    rw [stale]
    rfl
  · rw [if_neg stale]
    exact if_neg stale

theorem State.meanReported_setChannel (w : State) (c : Channel) (q : ChannelRec) (samples : List Int) :
    (w.setChannel c q).meanReported c samples = (w.meanReported c samples).setChannel c q := by
  unfold meanReported
  rw [report_setChannel, report_setChannel]
  split_ifs <;> rfl

theorem State.scaleReported_setChannel (w : State) (c : Channel) (q : ChannelRec) (y : Int) :
    (w.setChannel c q).scaleReported c y = (w.scaleReported c y).setChannel c q := by
  unfold scaleReported
  rw [report_setChannel, State.setChannel_channelEntry_eq]
  split_ifs <;> rfl

/-- The hand-on by the kind and the state of the channel (R24, R25). -/
theorem handOn_eq {c : Channel} {s : State} (n : Cycle)
    (working : (s.channel c).state = .settling ∨ (s.channel c).state = .valid ∨ (s.channel c).state = .suspect) :
    handOn c n s =
      if (s.channelEntry c).kind = .neutral ∧ (s.channel c).state ≠ .settling then blockArrival c n s
      else fieldOutput c s := by
  unfold handOn
  refine if_congr ?_ rfl rfl
  rw [Bool.and_eq_true, ChannelState.live_iff, Bool.not_eq_true', ← Bool.not_eq_true, ChannelKind.isField_iff, not_not,
    and_comm]
  refine and_congr_right fun _ => ⟨fun live settling => ?_, working.resolve_left⟩
  rw [settling] at live
  exact live.elim nofun nofun

/-- The steps of an accepted input up to the hand-on: the gap, the stages and the counts. -/
theorem processInput_eq (w : State) (c : Channel) (q : ChannelRec) (first : Bool) (missing : Nat) (n : Cycle)
    (samples : List Int) (working : q.state = .settling ∨ q.state = .valid ∨ q.state = .suspect) :
    ∃ v output second, w.Beside v ∧
      ((w.channelEntry c).kind = .neutral ∨ ¬(q.state = .valid ∨ q.state = .suspect) ∨ missing = 0 →
        second = q.second ∧ v.station = w.station) ∧
      let y := (fun y => filterStep (w.channelEntry c).shift y q.mean)^[missing] q.y
      let gone := { q with y := y, output := output, second := second }
      let staged := gone.staged (w.channelEntry c) first samples
      let reported := (v.meanReported c samples).scaleReported c (gone.filterOf (w.channelEntry c) first samples)
      let bad := samples.any sampleInvalid
      let taken := reported.setChannel c (staged.judgedRecord first bad w.fullStale)
      gapCycles c missing (w.setChannel c q) = v.setChannel c gone ∧
      processInput c first missing n samples (w.setChannel c q) = handOn c n
        (if staged.stateAfter first bad = staged.state then taken
          else channelNotice c (takeChange (.channel c) staged.state.rank (staged.stateAfter first bad).rank taken)) := by
  obtain ⟨v, output, second, beside, gap, idle⟩ := gapCycles_setChannel missing w c q
  refine ⟨v, output, second, beside, idle, ?_⟩
  intro y gone staged reported bad taken
  refine ⟨gap, ?_⟩
  have counts := countStep_setChannel reported c (q := staged) first bad working
  have stale : reported.fullStale = w.fullStale := by
    unfold State.fullStale
    rw [((beside.trans (.meanReported c samples v)).trans (.scaleReported c _ _)).kept.1]
  rw [stale] at counts
  rw [← counts]
  show handOn c n (countStep c first bad (stageScale c (stageFilter c first (stageMean c samples
    (gapCycles c missing (w.setChannel c q)))))) = _
  rw [gap, stages_setChannel, beside.channelEntry]

end Sys2Proof.Machine

/-! PROOF. An accepted block (O35), from the arrival of its frame to the hand-on. -/

namespace Sys2Proof.Machine

theorem State.meanReported_station (w : State) (c : Channel) (samples : List Int) :
    (w.meanReported c samples).station = w.station := by
  unfold meanReported
  split
  · rw [report_eq]
  split
  · rw [report_eq]
  · rfl

theorem State.scaleReported_station (w : State) (c : Channel) (y : Int) :
    (w.scaleReported c y).station = w.station := by
  unfold scaleReported
  split
  · rfl
  · rw [report_eq]

theorem acceptInput_eq (c : Channel) (n : Cycle) (w : State) :
    acceptInput c n w = w.setChannel c ((w.channel c).accepted n (w.fullLost c) w.fullStale) := by
  rw [← acceptInput_setChannel, State.setChannel_self]

/-! ### The record of an accepted input, field by field -/

/-- The record a STALE channel comes back with; any other state keeps its record (R16). -/
def ChannelRec.returned (full : Option Nat) (r : ChannelRec) : ChannelRec :=
  { r with
    state := if r.state = .stale then .valid else r.state
    degraded := if r.state = .stale then 0 else r.degraded
    good := if r.state = .stale then 0 else r.good
    staleTimer := if r.state = .stale then full else r.staleTimer }

theorem ChannelRec.returned_state (full : Option Nat) (r : ChannelRec) :
    (r.returned full).state = if r.state = .stale then .valid else r.state := rfl

/-- The record before the counts: returned, accepted, and the missing cycles passed. -/
def ChannelRec.arrived (n : Cycle) (lost full : Option Nat) (y output : Int) (second : FieldSecond) (r : ChannelRec) :
    ChannelRec :=
  { (r.returned full).accepted n lost full with y := y, output := output, second := second }

/-- The count of degraded blocks in a row after an input; a return has cleared it (R14, R16). -/
def ChannelRec.badAfter (bad : Bool) (r : ChannelRec) : Nat :=
  if bad then sat255 (if r.state = .stale then 0 else r.degraded) else 0

/-- The count of good blocks in a row after an input (R14, R16). -/
def ChannelRec.goodAfter (bad : Bool) (r : ChannelRec) : Nat :=
  if bad then 0 else sat255 (if r.state = .stale then 0 else r.good)

/-- The state after an input, a return counted in (R13, R14, R16). -/
def ChannelRec.nextState (first bad : Bool) (r : ChannelRec) : ChannelState :=
  match r.state with
  | .settling => if (bad = false ∨ first = true) ∧ r.settleAfter first bad = 0 then .valid else .settling
  | .valid => if r.badAfter bad = 8 then .suspect else .valid
  | .suspect => if r.goodAfter bad = 4 then .valid else .suspect
  | .stale => .valid
  | .off => .off
  | .lost => .lost

section Arrived

variable {n : Cycle} {lost full : Option Nat} {y output : Int} {second : FieldSecond} {r : ChannelRec} {e : ChannelEntry}
  {first bad : Bool} {samples : List Int}

theorem arrived_counted :
    ((((r.arrived n lost full y output second).staged e first samples).counted bad).degraded = r.badAfter bad) ∧
    ((((r.arrived n lost full y output second).staged e first samples).counted bad).good = r.goodAfter bad) := by
  cases bad <;> exact ⟨rfl, rfl⟩

theorem arrived_settle :
    ((r.arrived n lost full y output second).staged e first samples).settleAfter first bad = r.settleAfter first bad := by
  by_cases stale : r.state = .stale
  · have returned : ((r.arrived n lost full y output second).staged e first samples).state = .valid := if_pos stale
    unfold ChannelRec.settleAfter
    rw [returned, stale, if_neg (by nofun), if_neg (by nofun)]
    rfl
  · have returned : ((r.arrived n lost full y output second).staged e first samples).state = r.state := if_neg stale
    unfold ChannelRec.settleAfter
    rw [returned]
    rfl

theorem arrived_stateAfter
    (from' : r.state = .settling ∨ r.state = .valid ∨ r.state = .suspect ∨ r.state = .stale) :
    ((r.arrived n lost full y output second).staged e first samples).stateAfter first bad = r.nextState first bad := by
  obtain ⟨degraded, good⟩ := arrived_counted (n := n) (lost := lost) (full := full) (y := y) (output := output)
    (second := second) (r := r) (e := e) (first := first) (samples := samples) (bad := bad)
  have returned : ((r.arrived n lost full y output second).staged e first samples).state =
    if r.state = .stale then .valid else r.state := rfl
  unfold ChannelRec.stateAfter ChannelRec.nextState
  rw [returned, degraded, good, arrived_settle]
  obtain settling | valid | suspect | stale := from'
  · rw [settling, if_neg (by nofun)]
  · rw [valid, if_neg (by nofun)]
  · rw [suspect, if_neg (by nofun)]
  · have one : r.badAfter bad ≠ 8 := by
      unfold ChannelRec.badAfter
      rw [if_pos stale]
      cases bad <;> nofun
    rw [stale, if_pos rfl]
    exact if_neg one

/-- The stale timer after an input: full once the channel is out of SETTLING (R13, R16, R17). -/
theorem arrived_timer (n : Cycle) (lost : Option Nat)
    (from' : r.state = .settling ∨ r.state = .valid ∨ r.state = .suspect ∨ r.state = .stale) :
    (if (r.returned full).state = .settling ∧ r.nextState first bad = .valid then full
      else ((r.returned full).accepted n lost full).staleTimer) =
      if r.nextState first bad = .settling then r.staleTimer else full := by
  by_cases settling : r.state = .settling
  · have returned : (r.returned full).state = .settling :=
      (if_neg (by rw [settling]; nofun)).trans settling
    have timer : ((r.returned full).accepted n lost full).staleTimer = r.staleTimer :=
      (if_neg (by rw [returned]; nofun)).trans (if_neg (by rw [settling]; nofun))
    have next : r.nextState first bad = .valid ∨ r.nextState first bad = .settling := by
      unfold ChannelRec.nextState
      rw [settling]
      exact ite_eq_or_eq ..
    rw [returned, timer]
    obtain next | next := next
    · rw [next, if_pos ⟨rfl, rfl⟩, if_neg (by nofun)]
    · rw [next, if_neg (by nofun), if_pos rfl]
  · have live : (r.returned full).state.live = true := by
      rw [ChannelState.live_iff, ChannelRec.returned_state]
      split
      · exact .inl rfl
      · rename_i notStale
        exact (from'.resolve_left settling).elim .inl fun h => .inr (h.resolve_right notStale)
    have left : r.nextState first bad ≠ .settling := by
      unfold ChannelRec.nextState
      obtain valid | suspect | stale := from'.resolve_left settling
      · rw [valid]
        dsimp only
        split <;> nofun
      · rw [suspect]
        dsimp only
        split <;> nofun
      · rw [stale]
        nofun
    rw [if_neg left, if_neg]
    · exact if_pos live
    · rintro ⟨returned, -⟩
      rw [returned] at live
      cases live

/-- The record after an accepted input, field by field. -/
theorem judgedRecord_arrived
    (from' : r.state = .settling ∨ r.state = .valid ∨ r.state = .suspect ∨ r.state = .stale) :
    ((r.arrived n lost full y output second).staged e first samples).judgedRecord first bad full =
      { r with
        state := r.nextState first bad
        y := if first then r.meanOf samples * 256 else filterStep e.shift y (r.meanOf samples)
        mean := r.meanOf samples, lastCycle := some n
        output := e.outputOf (if first then r.meanOf samples * 256 else filterStep e.shift y (r.meanOf samples))
        clipped := !samples.any sampleInvalid && samples.any sampleClipped
        degraded := if r.nextState first bad = (r.returned full).state then r.badAfter bad else 0
        good := if r.nextState first bad = (r.returned full).state then r.goodAfter bad else 0
        settle := r.settleAfter first bad
        staleTimer := if r.nextState first bad = .settling then r.staleTimer else full
        lostTimer := lost, second := second } := by
  obtain ⟨degraded, good⟩ := arrived_counted (n := n) (lost := lost) (full := full) (y := y) (output := output)
    (second := second) (r := r) (e := e) (first := first) (samples := samples) (bad := bad)
  have state := arrived_stateAfter (n := n) (lost := lost) (full := full) (y := y) (output := output)
    (second := second) (e := e) (first := first) (samples := samples) (bad := bad) from'
  unfold ChannelRec.judgedRecord
  rw [state, degraded, good, arrived_settle, ← arrived_timer n lost from']
  rfl

end Arrived

/-- An accepted input leaves the channel in one of the three states that work. -/
theorem nextState_working {r : ChannelRec} {first bad : Bool}
    (from' : r.state = .settling ∨ r.state = .valid ∨ r.state = .suspect ∨ r.state = .stale) :
    r.nextState first bad = .settling ∨ r.nextState first bad = .valid ∨ r.nextState first bad = .suspect := by
  unfold ChannelRec.nextState
  obtain settling | valid | suspect | stale := from'
  · rw [settling]
    exact (ite_eq_or_eq ..).symm.imp_right .inl
  · rw [valid]
    exact .inr (ite_eq_or_eq ..).symm
  · rw [suspect]
    exact .inr (ite_eq_or_eq ..)
  · rw [stale]
    exact .inr (.inl rfl)

/-- The stale timer as the input is taken (R15, R17). -/
theorem accepted_returned_timer {n : Cycle} {lost full : Option Nat} {r : ChannelRec}
    (from' : r.state = .settling ∨ r.state = .valid ∨ r.state = .suspect ∨ r.state = .stale) :
    ((r.returned full).accepted n lost full).staleTimer =
      if (r.returned full).state = .settling then r.staleTimer else full := by
  by_cases settling : (r.returned full).state = .settling
  · have kept : r.state ≠ .stale := fun stale => by
      rw [ChannelRec.returned_state, if_pos stale] at settling
      cases settling
    rw [if_pos settling]
    exact (if_neg (by rw [settling]; nofun)).trans (if_neg kept)
  · rw [if_neg settling]
    refine if_pos ?_
    rw [ChannelState.live_iff]
    rw [ChannelRec.returned_state] at settling ⊢
    split
    · exact .inl rfl
    · rename_i kept
      rw [if_neg kept] at settling
      exact (from'.resolve_left settling).imp_right fun h => h.resolve_right kept

/-- The per-second step writes the per-second fields alone of the record. -/
theorem fieldOutput_spec (c : Channel) (s : State) :
    ∃ second, (fieldOutput c s).channel c = { s.channel c with second := second } ∧
      ((s.channelEntry c).kind = .neutral → second = (s.channel c).second) ∧ WorksOnChannel c s (fieldOutput c s) := by
  obtain ⟨v, second, beside, eq, idle⟩ := fieldOutput_setChannel s c (s.channel c)
  rw [State.setChannel_self] at eq
  rw [eq]
  exact ⟨second, State.setChannel_channel_same .., fun neutral => (idle (.inl neutral)).1,
    (beside.worksOnChannel c).trans (.setChannel _ _)⟩

/-- Settles O35: each of the state's stages is one write of the record of channel `c`, so the walk from the return of a
STALE channel through the gap to the counts is a chain of records, and the reports go on beside it. -/
theorem acceptedBlockUpdatesTheChannel : Obligations.AcceptedBlockUpdatesTheChannel := by
  intro s port bytes lock f c first missing isFrame block mine blockFor accepted
  have arrives := exec_blockFor (port := port) (lock := lock) isFrame block mine blockFor
  obtain ⟨-, -, -, -, -, -, serving, -⟩ := blockFor
  intro r e subject samples degraded clipped mean filter scaled limit output fullStale fullLost put change clamped old
    back begun missed filled judged y bad good settle state record before taken u t
  have takes : takeInput c (blockCycle f.body) samples s = processInput c first missing (blockCycle f.body) samples
      (acceptInput c (blockCycle f.body) (staleReturn c s)) := by
    obtain ⟨rfl, rfl, settling, unknown⟩ | ⟨rfl, few, found, last, known, distance⟩ := accepted
    · rw [takeInput_of_judged serving (by rw [settling]; nofun), judgedInput_first settling unknown]
    · rw [takeInput_of_judged serving found, judgedInput_accepted known few distance]
  have from' : r.state = .settling ∨ r.state = .valid ∨ r.state = .suspect ∨ r.state = .stale := by
    obtain ⟨-, -, settling, -⟩ | ⟨-, -, found, -⟩ := accepted
    · exact .inl settling
    · cases h : r.state with
      | off => exact absurd h serving
      | lost => exact absurd h found
      | settling => exact .inl rfl
      | valid => exact .inr (.inl rfl)
      | suspect => exact .inr (.inr (.inl rfl))
      | stale => exact .inr (.inr (.inr rfl))
  have oldStale : r.state = .stale → old = .valid := fun h => if_pos h
  have oldSame : r.state ≠ .stale → old = r.state := fun h => if_neg h
  have working : old = .settling ∨ old = .valid ∨ old = .suspect := by
    by_cases stale : r.state = .stale
    · exact .inr (.inl (oldStale stale))
    · rw [oldSame stale]
      obtain h | h | h | h := from'
      · exact .inl h
      · exact .inr (.inl h)
      · exact .inr (.inr h)
      · exact absurd h stale
  have backIs : staleReturn c s = back := staleReturn_eq c s
  have backWorks : WorksOnChannel c s back := by
    show WorksOnChannel c s (if r.state = .stale then _ else s)
    split
    · exact ((WorksOnChannel.setChannel s _).trans (.takeChange _ _ _ _)).trans (.channelNotice _)
    · exact .refl s
  have backEntry : back.channelEntry c = e := congrArg (fun es => es[c]) backWorks.2.2.2.2.2.1
  have backSetup : back.setup = s.setup := backWorks.2.2.2.2.1
  have backChannel : back.channel c = r.returned fullStale := by
    unfold ChannelRec.returned
    by_cases stale : r.state = .stale
    · rw [show back = _ from if_pos stale, if_pos stale, if_pos stale, if_pos stale, if_pos stale]
      exact (channelNotice_channel ..).trans (State.setChannel_channel_same ..)
    · rw [show back = s from if_neg stale, if_neg stale, if_neg stale, if_neg stale, if_neg stale]
  have lostIs : back.fullLost c = fullLost := by
    unfold State.fullLost
    rw [backEntry, backSetup]
    rfl
  have staleIs : back.fullStale = fullStale := by
    unfold State.fullStale
    rw [backSetup]
    rfl
  let n := blockCycle f.body
  let q := (r.returned fullStale).accepted n fullLost fullStale
  have acceptIs : acceptInput c n back = back.setChannel c q := by
    rw [acceptInput_eq, lostIs, staleIs, backChannel]
  have begunIs : begun = back.setChannel c q := by
    have record : { r.returned fullStale with
        lastCycle := some n, lostTimer := fullLost
        staleTimer := if (r.returned fullStale).state = .settling then r.staleTimer else fullStale } = q := by
      rw [← accepted_returned_timer (n := n) (lost := fullLost) from']
      rfl
    refine Eq.trans ?_ (congrArg (back.setChannel c) record)
    show back.setChannel c { back.channel c with
      lastCycle := some n, lostTimer := fullLost
      staleTimer := if old = .settling then r.staleTimer else fullStale } = _
    rw [backChannel]
    rfl
  obtain ⟨v, last, second, beside, idle, gap, proc⟩ := processInput_eq back c q first missing n samples working
  rw [backEntry] at idle gap proc
  have outputIs : ∀ y, output y = e.outputOf y := fun y => by
    unfold ChannelEntry.outputOf
    rw [outputLimit_eq]
    rfl
  have clampedIs : ∀ (y : Int) (w : State), w.channelEntry c = e → clamped y w = w.scaleReported c y := by
    intro y w entry
    unfold State.scaleReported
    rw [entry, ← outputIs]
    rfl
  have missedIs : ∀ (w : State) (p : ChannelRec), w.channelEntry c = e → p.mean = r.mean →
      missed (w.setChannel c p) = gapCycle c (w.setChannel c p) := by
    intro w p entry held
    have cycle : missed (w.setChannel c p) = fieldOutput c (clamped (filter r.mean p.y)
        (w.setChannel c { p with y := filter r.mean p.y, output := output (filter r.mean p.y) })) := by
      show fieldOutput c (clamped (filter r.mean ((w.setChannel c p).channel c).y) ((w.setChannel c p).setChannel c
        { (w.setChannel c p).channel c with
          y := filter r.mean ((w.setChannel c p).channel c).y
          output := output (filter r.mean ((w.setChannel c p).channel c).y) })) = _
      rw [State.setChannel_channel_same, State.setChannel_setChannel]
    unfold gapCycle
    rw [cycle, clampedIs _ (w.setChannel c _) entry, State.scaleReported_setChannel, stageFilter_setChannel,
      stageScale_setChannel, outputIs, entry, held]
    rfl
  have gone : filled = v.setChannel c
      (r.arrived n fullLost fullStale ((filter r.mean)^[missing] r.y) last second) := by
    show missed^[missing] begun = _
    rw [begunIs, iterate_eq_gapCycles (q := q) missedIs missing backEntry rfl, gap]
    rfl
  have beforeIs : before = second := by
    show (filled.channel c).second = second
    rw [gone, State.setChannel_channel_same]
    rfl
  let reported := (v.meanReported c samples).scaleReported c y
  have takenIs : taken = reported.setChannel c (record second) := by
    have judgedIs : judged = filled.meanReported c samples := (State.meanReported_eq ..).symm
    have entry : (v.meanReported c samples).channelEntry c = e :=
      (State.meanReported_channelEntry ..).trans ((beside.channelEntry c).trans backEntry)
    show (clamped y judged).setChannel c (record before) = _
    rw [judgedIs, gone, State.meanReported_setChannel, clampedIs _ ((v.meanReported c samples).setChannel c _) entry,
      State.scaleReported_setChannel, State.setChannel_setChannel, beforeIs]
  let staged := (r.arrived n fullLost fullStale ((filter r.mean)^[missing] r.y) last second).staged e first samples
  have stateIs : staged.stateAfter first degraded = state := arrived_stateAfter from'
  have recordIs : staged.judgedRecord first degraded fullStale = record second := by
    rw [judgedRecord_arrived from', ← outputIs]
    rfl
  have uIs : processInput c first missing n samples (back.setChannel c q) = handOn c n u := by
    refine proc.trans (congrArg (handOn c n) ?_)
    rw [staleIs]
    show (if staged.stateAfter first degraded = staged.state then
        reported.setChannel c (staged.judgedRecord first degraded fullStale)
      else channelNotice c (takeChange (.channel c) staged.state.rank (staged.stateAfter first degraded).rank
        (reported.setChannel c (staged.judgedRecord first degraded fullStale)))) = _
    rw [recordIs, stateIs, ← takenIs]
    rfl
  have takenWorks : WorksOnChannel c s taken := by
    rw [takenIs]
    exact (backWorks.trans (((beside.trans (.meanReported ..)).trans (.scaleReported ..)).worksOnChannel c)).trans
      (.setChannel _ _)
  have uWorks : WorksOnChannel c s u := by
    show WorksOnChannel c s (if state = old then taken else change old state taken)
    split
    · exact takenWorks
    · exact (takenWorks.trans (.takeChange _ _ _ _)).trans (.channelNotice _)
  have uEntry : u.channelEntry c = e := congrArg (fun es => es[c]) uWorks.2.2.2.2.2.1
  have uChannel : u.channel c = record before := by
    have taken' : taken.channel c = record before := State.setChannel_channel_same ..
    show State.channel (if state = old then taken else change old state taken) c = _
    split
    · exact taken'
    · exact (channelNotice_channel ..).trans taken'
  have after : state = .settling ∨ state = .valid ∨ state = .suspect := nextState_working from'
  have tIs : handOn c n u = t := by
    rw [handOn_eq n (by rw [uChannel]; exact after), uEntry, uChannel]
  have kept : state = r.state → u = taken ∧ back = s := fun same => by
    have notStale : r.state ≠ .stale := fun stale => by
      rw [same, stale] at after
      exact after.elim nofun fun h => h.elim nofun nofun
    exact ⟨if_pos (same.trans (oldSame notStale).symm), if_neg notStale⟩
  have takenBeside : v.Beside reported := (State.Beside.meanReported ..).trans (.scaleReported ..)
  have tWorks : WorksOnChannel c s t ∧
      ∃ after : FieldSecond, t.channel c = record after ∧ (e.kind = .neutral → after = r.second) := by
    have beforeKept : e.kind = .neutral → before = r.second := fun neutral => beforeIs.trans (idle (.inl neutral)).1
    show WorksOnChannel c s (if e.kind = .neutral ∧ state ≠ .settling then blockArrival c n u else fieldOutput c u) ∧
      ∃ after : FieldSecond, State.channel (if e.kind = .neutral ∧ state ≠ .settling then blockArrival c n u
        else fieldOutput c u) c = record after ∧ (e.kind = .neutral → after = r.second)
    split
    · exact ⟨uWorks.trans (.blockArrival _ _), before, (blockArrival_channel ..).trans uChannel, beforeKept⟩
    · obtain ⟨second', written, same, works⟩ := fieldOutput_spec c u
      rw [uChannel] at written same
      rw [uEntry] at same
      exact ⟨uWorks.trans works, second', written, fun neutral => (same neutral).trans (beforeKept neutral)⟩
  obtain ⟨uOthers, -, uAround⟩ := uWorks
  obtain ⟨⟨tOthers, tXfs, tAround⟩, tChannel⟩ := tWorks
  refine ⟨?_, uChannel, uOthers, uAround, fun still => ?_, fun same => ?_, fun same still => ?_, tChannel, tOthers, tXfs,
    tAround⟩
  · rw [arrives, takes, backIs, acceptIs, uIs, tIs]
  · refine beforeIs.trans (idle ?_).1
    obtain neutral | none | settling := still
    · exact .inl neutral
    · exact .inr (.inr none)
    · refine .inr (.inl ?_)
      show ¬(old = .valid ∨ old = .suspect)
      rw [oldSame (by rw [settling]; nofun), settling]
      exact fun h => h.elim nofun nofun
  · obtain ⟨uTaken, backS⟩ := kept same
    obtain ⟨-, -, -, xfs, recorder, alarmOut⟩ := (beside.trans takenBeside).kept
    rw [uTaken, takenIs]
    rw [backS] at xfs recorder alarmOut
    exact ⟨xfs, recorder, alarmOut⟩
  · obtain ⟨uTaken, backS⟩ := kept same
    have station := (idle (still.imp_right .inr)).2
    rw [backS] at station
    rw [uTaken, takenIs]
    exact ((State.scaleReported_station ..).trans (State.meanReported_station ..)).trans station

end Sys2Proof.Machine
